-- ==== Sys2Proof/Word.lean ====
section
/-!
DEFINITION. The units of data of the E12 protocol engine block (spec 00_scope.md R25, R26): a byte is a `u8`,
a byte string is a finite list of bytes. Wider values (`u32`, `u64`, `i32` patterns) are bit vectors of their width.
-/

namespace Sys2Proof

/-- A byte, `u8` (R25). -/
abbrev Byte := BitVec 8

/-- A byte string: a finite list of bytes, index 0 first (R26). -/
abbrev Bytes := List Byte

/-- A port command word (R111), and the width of the `u32` payload values (R25). -/
abbrev Word32 := BitVec 32

/-- The width of the `u64` payload value `aux` (R25, R107). -/
abbrev Word64 := BitVec 64

end Sys2Proof
end

