-- ==== Sys2Proof/Config.lean ====
section
/-!
DEFINITION. The implementation parameters of the block (spec 00_scope.md R9 to R23): one record, so that the machine
takes every parameter as an argument, with the spec's default of each. The record is held in `State` as a constant that
no step changes (log entry 1). Functions the spec gives as parameters (`CMD_CODE`, `LOG_IS_TEXT`) are held as plain data.
-/

namespace Sys2Proof

/-- The catalog of the 15 commands, in the source's order (30_encoding.md R90). -/
inductive Command
  | ping | auth | info | config | state | status | log | time | scheduleWakeup | nodeSleep | nodeAwake
  | ota | vmcuOta | setNodeProperties | debugBlink
  deriving DecidableEq, Repr

/-- The catalog as a list, in the order of R90. -/
def Command.all : List Command :=
  [.ping, .auth, .info, .config, .state, .status, .log, .time, .scheduleWakeup, .nodeSleep, .nodeAwake,
   .ota, .vmcuOta, .setNodeProperties, .debugBlink]

/-- The place of a command in the catalog of R90, counting from 0. -/
def Command.index : Command → Nat
  | .ping => 0 | .auth => 1 | .info => 2 | .config => 3 | .state => 4 | .status => 5 | .log => 6 | .time => 7
  | .scheduleWakeup => 8 | .nodeSleep => 9 | .nodeAwake => 10 | .ota => 11 | .vmcuOta => 12
  | .setNodeProperties => 13 | .debugBlink => 14

/-- `MAGIC_CHECK` (R17): `any` rejects a pair with a mismatch in either byte, `both` only one with two mismatches. -/
inductive MagicCheck
  | any | both
  deriving DecidableEq, Repr

/-- `RESYNC` (R18): what the decoder keeps after a magic mismatch. -/
inductive Resync
  | pair | slide
  deriving DecidableEq, Repr

/-- `ENDIAN` (R20): the byte order of multi-byte payload fields. -/
inductive Endian
  | le | be
  deriving DecidableEq, Repr

/-- The parameters of R9 to R23. -/
structure Config where
  /-- `FRAME_MAX` (R9), in bytes. -/
  frameMax : Nat
  /-- `MAGIC_A` (R11). -/
  magicA : Byte
  /-- `MAGIC_K` (R11). -/
  magicK : Byte
  /-- `CMD_CODE` (R12): the code of each command, in catalog order. -/
  cmdCodes : List Byte
  /-- `RE_BIT` (R13). -/
  reBit : Fin 8
  /-- `IR_BIT` (R13). -/
  irBit : Fin 8
  /-- `ET_BIT` (R14). -/
  etBit : Fin 8
  /-- `STORE_BIT` (R14). -/
  storeBit : Fin 8
  /-- `FETCH_BIT` (R14). -/
  fetchBit : Fin 8
  /-- `CKSUM_INIT` (R15). -/
  cksumInit : Byte
  /-- `SEQ_RESET` (R16). -/
  seqReset : Byte
  /-- `MAGIC_CHECK` (R17). -/
  magicCheck : MagicCheck
  /-- `RESYNC` (R18). -/
  resync : Resync
  /-- `EARLY_LENGTH_CHECK` (R19). -/
  earlyLengthCheck : Bool
  /-- `ENDIAN` (R20). -/
  endian : Endian
  /-- `PING_TEXT` (R21). -/
  pingText : Bytes
  /-- `PONG_TEXT` (R21). -/
  pongText : Bytes
  /-- `SSID_LEN` (R22), in bytes. -/
  ssidLen : Nat
  /-- `PASS_LEN` (R22), in bytes. -/
  passLen : Nat
  /-- `LOG_DATA_LEN` (R23), in bytes. -/
  logDataLen : Nat
  /-- `LOG_IS_TEXT` (R23): bit `t` is the answer for the log-event type byte `t`. -/
  logIsText : BitVec 256
  deriving DecidableEq, Repr

/-- The default of every parameter, as R9 to R23 give it. -/
def Config.default : Config where
  frameMax := 128
  magicA := 0xE1
  magicK := 0x12
  cmdCodes := [0x01, 0x02, 0x03, 0x04, 0x05, 0x06, 0x07, 0x08, 0x09, 0x0A, 0x0B, 0x0C, 0x0D, 0x0E, 0x0F]
  reBit := 0
  irBit := 1
  etBit := 0
  storeBit := 1
  fetchBit := 2
  cksumInit := 0x00
  seqReset := 0x00
  magicCheck := .any
  resync := .pair
  earlyLengthCheck := true
  endian := .le
  pingText := [0x70, 0x69, 0x6E, 0x67]
  pongText := [0x70, 0x6F, 0x6E, 0x67]
  ssidLen := 32
  passLen := 64
  logDataLen := 16
  logIsText := 1

/-- `MAGIC_B = MAGIC_K xor MAGIC_A` (R11). -/
def Config.magicB (cfg : Config) : Byte := cfg.magicK ^^^ cfg.magicA

/-- `PMAX = FRAME_MAX - 8`, the largest payload of a frame (R10). -/
def Config.pmax (cfg : Config) : Nat := cfg.frameMax - 8

/-- `CMD_CODE(k)` (R12, R90). -/
def Config.code (cfg : Config) (k : Command) : Byte := cfg.cmdCodes.getD k.index 0

/-- The command whose code is `c`, if `c` is in the image of `CMD_CODE` (R91). -/
def Config.commandOf (cfg : Config) (c : Byte) : Option Command :=
  Command.all.find? fun k => cfg.code k == c

/-- `LOG_IS_TEXT(t)` (R23). -/
def Config.isTextLog (cfg : Config) (t : Byte) : Bool := cfg.logIsText.getLsbD t.toNat

end Sys2Proof
end

