-- ==== Sys2Proof/Machine/Port.lean ====
section
/-!
DEFINITION. The types of what crosses the block's port: packet values, the operands of the data channel, the host's answers
to an `ask`, the selection of an operation, the outputs of an operation (spec 00_scope.md R7, R8, R27; 10_state.md R35, R38,
R42, R44; 30_encoding.md R111; 42_dispatch.md R180 to R183).
-/

namespace Sys2Proof.Machine

/-- A packet value (R44); its `payload_length` is the payload's length. -/
structure Packet where
  seq : Byte
  flags : Byte
  cmd : Byte
  payload : Bytes
  deriving DecidableEq, Repr

/-- The decoder states (R35). -/
inductive DState
  | awaitingMagic | awaitingLength | accumulatingPayload | frameComplete
  deriving DecidableEq, Repr

/-- What the last PUSH_BYTE did (R38). -/
inductive RxEvent
  | noEvent | progress | frameOk | magicErr | lengthErr | checksumErr
  deriving DecidableEq, Repr

/-- The values of the sticky `fault` register (R42, R250). These are the spec's own faults: the machine goes on, in its
faulted state, so raising one is a next state of the model. -/
inductive FaultCode
  | noFault | frameOverflow | noPacket | decodeOverrun | callbackContract | illegalOp
  deriving DecidableEq, Repr

/-- The route ON_RECEIVE reports (R183); `routeCode` gives its value. -/
inductive Route
  | noRoute | applyConfig | restoreState
  deriving DecidableEq, Repr

/-- The output `status`: OK or FAULT(code) (R111). -/
inductive Status
  | ok
  | fault (code : FaultCode)
  deriving DecidableEq, Repr

/-- A request the block sends to the host inside an operation (R27 `ask`, R182, R183, R189). -/
inductive Ask
  | exportState (maxLen : Nat)
  | applyConfig (text : Bytes) (len : Nat)
  | restoreState (text : Bytes) (len : Nat)
  | configBlob
  | stateBlob
  | nowMs
  deriving DecidableEq, Repr

/-- The outputs other than `status` that an operation drives (R111); `nothing` when it drives none. -/
inductive OutVal
  | nothing
  /-- ENCODE's `tx_len`. -/
  | txLen (n : Byte)
  /-- CHECKSUM's `c`. -/
  | check (c : Byte)
  /-- PUSH_BYTE's `pkt` and `event`. -/
  | push (pkt : Option Packet) (event : RxEvent)
  /-- BUILD_REQUEST's packet value. -/
  | request (p : Packet)
  /-- BUILD_RESPONSE's packet value or none. -/
  | response (p : Option Packet)
  /-- ON_RECEIVE's `route`. -/
  | route (r : Route)
  /-- TX_FRAME's frame. -/
  | frame (f : Bytes)
  /-- READ_STATUS's STATUS0 and STATUS1. -/
  | statusWords (status0 status1 : Word32)
  deriving DecidableEq, Repr

/-- The port's output side after an operation: `status`, the other outputs, and the asks the operation made, in order. -/
structure PortOut where
  status : Status
  val : OutVal
  asks : List Ask
  deriving DecidableEq, Repr

/-- Which action of a command is run when the command itself is the instruction (log entry 2): its request (with the
response_expected bit), its response, or its receive action; R185 to R199 give each command these three. -/
inductive CmdAction
  | request (re : Bool)
  | response
  | receive
  deriving DecidableEq, Repr

/-- The arguments of BUILD_REQUEST LOG (R180, R191): `fbits` is the float's bit pattern (R109), `ival` the 32-bit
two's-complement pattern of the signed integer (R100). -/
structure LogArgs where
  logType : Byte
  status : Byte
  source : Byte
  sourceIndex : Byte
  timestamp : Word32
  count : Word32
  text : Bytes
  fbits : Word32
  ival : Word32
  deriving DecidableEq, Repr

/-- The data channel (R111, R180): every operand an operation can take beside its port word. An operation reads the
operands its rule names and no others. -/
structure DataChannel where
  /-- ENCODE's packet value. -/
  packet : Packet
  /-- CHECKSUM's byte string. -/
  str : Bytes
  /-- The action of a command run as an instruction (log entry 2). -/
  action : CmdAction
  /-- AUTH's `ssid`. -/
  ssid : Bytes
  /-- AUTH's `pass`. -/
  pass : Bytes
  /-- CONFIG's `blob`: none, or a byte string. -/
  blob : Option Bytes
  /-- STATE's `store`. -/
  store : Bool
  /-- LOG's arguments. -/
  log : LogArgs
  /-- TIME's `t_ms`. -/
  tMs : Word32
  /-- SCHEDULE_WAKEUP's `duration_ms`. -/
  durationMs : Word32
  /-- NODE_SLEEP's `deadline_ms`. -/
  deadlineMs : Word32
  /-- SET_NODE_PROPERTIES's `props`. -/
  props : Word32
  /-- SET_NODE_PROPERTIES's `aux`. -/
  aux : Word64
  deriving DecidableEq, Repr

/-- What the host answers to the asks of one operation (R27, R182, R183, R189). An operation asks at most once, so one
answer of each kind is enough; nothing constrains the answers beyond their types. -/
structure HostAnswers where
  /-- The count `n` that `export_state` answers. -/
  exportLen : Nat
  /-- The bytes `data` that `export_state` answers. -/
  exportData : Bytes
  /-- The success that `apply_config` answers. -/
  applyConfig : Bool
  /-- The status that `restore_state` answers. -/
  restoreState : Byte
  /-- The Device Record's config blob. -/
  configBlob : Bytes
  /-- The Device Record's state blob. -/
  stateBlob : Bytes
  /-- The current time in milliseconds. -/
  nowMs : Word32
  deriving DecidableEq, Repr

/-- The selection of an instruction: a port command word (R111), or the command byte of a frame (R90), which is the other
encoding of the opcode table (log entry 2). -/
inductive Code
  | port (w : Word32)
  | command (b : Byte)
  deriving DecidableEq, Repr

/-- One operation as the host issues it: its selection, its operands, and the answers the host will give. -/
structure PortRequest where
  code : Code
  data : DataChannel
  answers : HostAnswers
  deriving DecidableEq, Repr

/-- An empty packet value. -/
def Packet.empty : Packet := { seq := 0, flags := 0, cmd := 0, payload := [] }

/-- The data channel with every operand zero or empty. -/
def DataChannel.idle : DataChannel where
  packet := Packet.empty
  str := []
  action := .request false
  ssid := []
  pass := []
  blob := none
  store := false
  log :=
    { logType := 0, status := 0, source := 0, sourceIndex := 0, timestamp := 0, count := 0, text := [], fbits := 0,
      ival := 0 }
  tMs := 0
  durationMs := 0
  deadlineMs := 0
  props := 0
  aux := 0

/-- The answers of a host that answers zero, false or empty to everything. -/
def HostAnswers.idle : HostAnswers where
  exportLen := 0
  exportData := []
  applyConfig := false
  restoreState := 0
  configBlob := []
  stateBlob := []
  nowMs := 0

/-- The outputs before any operation, the same as RESET's. -/
def PortOut.idle : PortOut := { status := .ok, val := .nothing, asks := [] }

end Sys2Proof.Machine
end

