-- ==== Sys2Proof/Machine/State.lean ====
section
/-!
DEFINITION. The state of the block as plain data (spec 10_state.md R32 to R51, 70_reset_and_hazards.md R280), the reasons a
step can stop, and the state after reset.
-/

namespace Sys2Proof.Machine

/-- The two addressable memories of the block (20_memory.md R60). -/
inductive Buffer
  | rx | tx
  deriving DecidableEq, Repr

/-- The reasons a step stops. The spec's own faults are no stops: they are the `fault` register (R250, R257). -/
inductive Fault
  /-- Raised by PUSH_BYTE and TX_FRAME when a register holds a value outside its legal range (`rc` or `tx_len` above
  FRAME_MAX), so that a buffer index would lie outside `0..FRAME_MAX-1`; R70 says no such index is ever accessed. Safe: no
  state that a run reaches has such a register (log entry 9). -/
  | badAddress (buffer : Buffer) (index : Nat)
  deriving DecidableEq, Repr

/-- The reasons a step is refused. -/
inductive Refusal
  /-- Raised by an arm of `exec` for an instruction without a meaning. Safe; no arm of this model raises it. -/
  | notModelled (mnemonic : String)
  deriving DecidableEq, Repr

/-- A buffer's contents: the bytes that are not 0, by index, indexes strictly rising. An index that is not listed holds
0x00, the value of every byte after RESET (R36, R39, R280). -/
abbrev Memory := List Host.Cell

/-- The canonical form: indexes strictly rising and no byte 0 listed. -/
abbrev Memory.wf (m : Memory) : Prop := m.Pairwise (fun c d => c.1 < d.1) ∧ ∀ c ∈ m, c.2 ≠ 0

/-- Every listed index lies in the buffer, `0..n-1` (R60). -/
abbrev Memory.within (m : Memory) (n : Nat) : Prop := ∀ c ∈ m, c.1 < n

/-- The state of the block, with the port it is driven through. -/
structure State where
  /-- The parameters (R9 to R23); no step writes them. -/
  cfg : Config
  /-- `seq_ctr`, the sequence counter (R32). -/
  seqCtr : Byte
  /-- `configured` (R33). -/
  configured : Bool
  /-- `rc`, received_count (R34). -/
  rc : Byte
  /-- `dstate`, the decoder state (R35). -/
  dstate : DState
  /-- `rx_buf`, the decode buffer (R36). -/
  rxBuf : Memory
  /-- `rx_valid` (R37). -/
  rxValid : Bool
  /-- `rx_pkt`, the received-packet register (R37). -/
  rxPkt : Packet
  /-- `last_rx_event` (R38). -/
  lastRxEvent : RxEvent
  /-- `tx_buf`, the encode buffer (R39). -/
  txBuf : Memory
  /-- `tx_len` (R40). -/
  txLen : Byte
  /-- `tx_pending` (R41). -/
  txPending : Bool
  /-- `tx_lost` (R51). -/
  txLost : Bool
  /-- `fault`, the sticky fault register (R42). -/
  fault : FaultCode
  /-- The operations the host has still to issue, in order: the model's own (R8, R31; log entry 4). -/
  pending : List PortRequest
  /-- The data channel of the operation now on the port (R111). -/
  data : DataChannel
  /-- The host's answers for the operation now on the port (R27). -/
  answers : HostAnswers
  /-- The outputs of the latest operation (R111). -/
  out : PortOut
  deriving DecidableEq, Repr

/-- The reset value of every register, under the parameters `cfg` (R280); construction counts as a RESET (R281). The
contents of `rx_pkt` are unspecified: the model names the empty packet (log entry 5). The port is idle. -/
def State.initial (cfg : Config) : State where
  cfg := cfg
  seqCtr := cfg.seqReset
  configured := false
  rc := 0
  dstate := .awaitingMagic
  rxBuf := []
  rxValid := false
  rxPkt := Packet.empty
  lastRxEvent := .noEvent
  txBuf := []
  txLen := 0
  txPending := false
  txLost := false
  fault := .noFault
  pending := []
  data := DataChannel.idle
  answers := HostAnswers.idle
  out := PortOut.idle

/-- The machine right after reset, with the default parameters. -/
def State.reset : State := State.initial Config.default

end Sys2Proof.Machine
end

