-- ==== Sys2Proof/Machine/Flags.lean ====
section
/-!
DEFINITION. The flag bytes and the status words: the header flags byte (spec 10_state.md R45), the blob-flags byte (R46), and
the words READ_STATUS returns (R48, R49) with the codes of their fields (R35, R38, R42); the codes of ON_RECEIVE's route
(42_dispatch.md R183).
-/

namespace Sys2Proof.Machine

/-- The byte with one bit set. -/
def bitByte (i : Fin 8) : Byte := (1 : Byte) <<< i.val

/-- The header flags of a request: `re << RE_BIT`, IR and the reserved bits 0 (R45, R180). -/
def requestFlags (cfg : Config) (re : Bool) : Byte := if re then bitByte cfg.reBit else 0

/-- The header flags of a response: IR set, RE and the reserved bits 0 (R45, R182). -/
def responseFlags (cfg : Config) : Byte := bitByte cfg.irBit

/-- `flags[RE_BIT]`: the sender wants a response (R45). -/
def wantsResponse (cfg : Config) (flags : Byte) : Bool := flags.getLsbD cfg.reBit.val

/-- The blob flags of a fetch, `1 << FETCH_BIT` (R97, R98). -/
def fetchFlags (cfg : Config) : Byte := bitByte cfg.fetchBit

/-- The blob flags of a store, ET or STORE (R97, R98). -/
def storeFlags (cfg : Config) : Byte := bitByte cfg.etBit ||| bitByte cfg.storeBit

/-- ET of a blob-flags byte (R46). -/
def isEncodedText (cfg : Config) (f : Byte) : Bool := f.getLsbD cfg.etBit.val

/-- STORE of a blob-flags byte (R46). -/
def isStore (cfg : Config) (f : Byte) : Bool := f.getLsbD cfg.storeBit.val

/-- FETCH of a blob-flags byte (R46). -/
def isFetch (cfg : Config) (f : Byte) : Bool := f.getLsbD cfg.fetchBit.val

/-- The value of `dstate` (R35). -/
def dstateCode : DState → BitVec 2
  | .awaitingMagic => 0
  | .awaitingLength => 1
  | .accumulatingPayload => 2
  | .frameComplete => 3

/-- The value of `last_rx_event` (R38). -/
def eventCode : RxEvent → BitVec 3
  | .noEvent => 0
  | .progress => 1
  | .frameOk => 2
  | .magicErr => 3
  | .lengthErr => 4
  | .checksumErr => 5

/-- The value of `fault` (R42). -/
def faultCodeBits : FaultCode → BitVec 3
  | .noFault => 0
  | .frameOverflow => 1
  | .noPacket => 2
  | .decodeOverrun => 3
  | .callbackContract => 4
  | .illegalOp => 5

/-- The value of ON_RECEIVE's output `route` (42_dispatch.md R183). -/
def routeCode : Route → Nat
  | .noRoute => 0
  | .applyConfig => 1
  | .restoreState => 2

/-- STATUS0 (R48): from bit 31 down, reserved, tx_lost, fault, seq_ctr, rc, last_rx_event, configured, tx_pending, rx_valid,
dstate. -/
def status0 (s : State) : Word32 :=
  (0 : BitVec 4) ++ BitVec.ofBool s.txLost ++ faultCodeBits s.fault ++ s.seqCtr ++ s.rc ++ eventCode s.lastRxEvent
    ++ BitVec.ofBool s.configured ++ BitVec.ofBool s.txPending ++ BitVec.ofBool s.rxValid ++ dstateCode s.dstate

/-- STATUS1 (R49): from bit 31 down, reserved, the held packet's payload length, tx_len. -/
def status1 (s : State) : Word32 :=
  (0 : BitVec 16) ++ (if s.rxValid then BitVec.ofNat 8 s.rxPkt.payload.length else 0) ++ s.txLen

/-- The output `status` of READ_STATUS: the sticky fault, or OK (R242). -/
def statusOf (f : FaultCode) : Status := if f = .noFault then .ok else .fault f

end Sys2Proof.Machine
end

