-- ==== Sys2Proof/Machine/Ops.lean ====
section
/-!
DEFINITION. The named operations the meanings share: the frame buffers (spec 00_scope.md R27, 20_memory.md R60), driving the
outputs of an operation, raising a fault and reporting a sticky one (60_exceptions.md R257, R258), and RESET, the only way
back from a fault (R259).
-/

namespace Sys2Proof.Machine

/-- The outcome of a step of this machine. -/
abbrev Result := Host.Outcome State Fault Refusal

/-- The byte at an index of a buffer: 0 where none is listed. -/
def Memory.read : Memory → Nat → Byte
  | [], _ => 0
  | c :: cs, a => if c.1 = a then c.2 else Memory.read cs a

/-- Puts a cell in its place among cells whose indexes rise. -/
def Memory.insert (c : Host.Cell) : Memory → Memory
  | [] => [c]
  | d :: ds => if c.1 < d.1 then c :: d :: ds else d :: Memory.insert c ds

/-- Removes the cell at an index. -/
def Memory.erase (m : Memory) (a : Nat) : Memory := m.filter fun c => c.1 != a

/-- `buf[a] <- b` (R26). Writing 0 removes the entry, so the canonical form is kept. -/
def Memory.write (m : Memory) (a : Nat) (b : Byte) : Memory :=
  if b = 0 then Memory.erase m a else Memory.insert (a, b) (Memory.erase m a)

/-- `MemRead(buf, a, n)` (R27). -/
def Memory.readBytes (m : Memory) (a : Nat) : Nat → Bytes
  | 0 => []
  | n + 1 => Memory.read m a :: Memory.readBytes m (a + 1) n

/-- `MemWrite(buf, a, n, v)` (R27): the bytes of `v` at `a`, `a + 1`, … -/
def Memory.writeBytes (m : Memory) (a : Nat) : Bytes → Memory
  | [] => m
  | b :: bs => Memory.writeBytes (Memory.write m a b) (a + 1) bs

/-- `fill(buf, 0)` (R26): no byte is listed. -/
def Memory.zero : Memory := []

/-- Drives `status = OK`, the operation's other outputs, and records the asks it made. -/
def State.drive (s : State) (v : OutVal) (asks : List Ask) : State :=
  { s with out := { status := .ok, val := v, asks := asks } }

/-- `raise FAULT(code)` (R257): writes `fault`, drives `status` and no other output, writes nothing else. An ask the
operation made before it has been answered. -/
def State.raiseFault (s : State) (code : FaultCode) (asks : List Ask) : State :=
  { s with fault := code, out := { status := .fault code, val := .nothing, asks := asks } }

/-- An operation in the faulted state only reports the sticky fault (R258). -/
def State.reportFault (s : State) : State :=
  { s with out := { status := .fault s.fault, val := .nothing, asks := [] } }

/-- The sticky-fault check every operation but RESET and READ_STATUS begins with (R258). -/
def unlessFaulted (s : State) (k : State → Result) : Result :=
  if s.fault = .noFault then k s else .next s.reportFault

/-- An illegal port command word (R256): checked after the sticky fault and before anything else. -/
def illegalOp (s : State) : Result :=
  unlessFaulted s fun s => .next (s.raiseFault .illegalOp [])

/-- BUILD_RESPONSE and ON_RECEIVE act on the held packet; without one they raise NO_PACKET (R253). -/
def withPacket (s : State) (k : Packet → Result) : Result :=
  if s.rxValid then k s.rxPkt else .next (s.raiseFault .noPacket [])

/-- Every register at its reset value (R240, R280); the parameters and the host's side of the port are not registers. -/
def State.resetRegisters (s : State) : State :=
  { State.initial s.cfg with pending := s.pending, data := s.data, answers := s.answers, out := s.out }

/-- The operation `r` comes onto the port: its operands and answers stand on the data channel (R111). -/
def State.latch (s : State) (r : PortRequest) (rest : List PortRequest) : State :=
  { s with pending := rest, data := r.data, answers := r.answers }

/-- `configured <- b` (R183). -/
def State.setConfigured (s : State) (b : Bool) : State := { s with configured := b }

/-- `seq_ctr <- (seq_ctr + 1) mod 256` (R181). -/
def State.bumpSeq (s : State) : State := { s with seqCtr := s.seqCtr + 1 }

/-- A payload of `n` bytes is longer than PMAX, that is, its frame is longer than FRAME_MAX (R132, R251). -/
def overflows (cfg : Config) (n : Nat) : Bool := decide (cfg.frameMax < 8 + n)

end Sys2Proof.Machine
end

