-- ==== Sys2Proof/Machine/Control.lean ====
section
/-!
DEFINITION. The control operations RESET, TX_FRAME and READ_STATUS (spec 43_control.md R240 to R242).
-/

namespace Sys2Proof.Machine

/-- RESET (R240): acts whatever the value of `fault`, and is the only operation that clears it (R259). -/
def execReset (s : State) : Result := .next (s.resetRegisters.drive .nothing [])

/-- `tx_pending <- 0` (R241). -/
def State.takeFrame (s : State) : State := { s with txPending := false }

/-- TX_FRAME (R241). A `tx_len` above FRAME_MAX, which no run reaches, would index outside the buffer (R70). -/
def execTxFrame (s : State) : Result :=
  unlessFaulted s fun s =>
    if s.cfg.frameMax < s.txLen.toNat then .fault (.badAddress .tx s.cfg.frameMax)
    else .next (s.takeFrame.drive (.frame (Memory.readBytes s.txBuf 0 s.txLen.toNat)) [])

/-- READ_STATUS (R242): acts in the faulted state too, and reports the fault in `status`. -/
def execReadStatus (s : State) : Result :=
  .next { s with out := { status := statusOf s.fault, val := .statusWords (status0 s) (status1 s), asks := [] } }

end Sys2Proof.Machine
end

