-- ==== Sys2Proof/Machine/Codec.lean ====
section
/-!
DEFINITION. The Frame Codec (spec 40_codec.md): the checksum, the frame of a packet value, ENCODE and CHECKSUM.
-/

namespace Sys2Proof.Machine

/-- `CHK(s)`: the running exclusive-or from CKSUM_INIT (R130). -/
def chk (cfg : Config) (s : Bytes) : Byte := s.foldl (· ^^^ ·) cfg.cksumInit

/-- The packet region of a frame, offsets 4 to TL-1: sequence, payload_length, flags, command, payload (R80, R84). -/
def packetRegion (p : Packet) : Bytes :=
  p.seq :: BitVec.ofNat 8 p.payload.length :: p.flags :: p.cmd :: p.payload

/-- The frame of a packet value (R80): the magic pair, total_length, the checksum of the packet region, the region. -/
def frameBytes (cfg : Config) (p : Packet) : Bytes :=
  cfg.magicA :: cfg.magicB :: BitVec.ofNat 8 (8 + p.payload.length) :: chk cfg (packetRegion p) :: packetRegion p

/-- The frame of `p` stands in `tx_buf`, untaken; a frame that was still untaken is lost (R131, R133). -/
def State.loadFrame (s : State) (p : Packet) : State :=
  { s with
    txBuf := Memory.writeBytes s.txBuf 0 (frameBytes s.cfg p)
    txLen := BitVec.ofNat 8 (8 + p.payload.length)
    txPending := true
    txLost := s.txLost || s.txPending }

/-- ENCODE (R131, R132). -/
def execEncode (s : State) : Result :=
  unlessFaulted s fun s =>
    if overflows s.cfg s.data.packet.payload.length then .next (s.raiseFault .frameOverflow [])
    else
      let t := s.loadFrame s.data.packet
      .next (t.drive (.txLen t.txLen) [])

/-- CHECKSUM (R134). -/
def execChecksum (s : State) : Result :=
  unlessFaulted s fun s => .next (s.drive (.check (chk s.cfg s.data.str)) [])

end Sys2Proof.Machine
end

