-- ==== Sys2Proof/Machine/Decoder.lean ====
section
/-!
DEFINITION. The Decode State Machine (spec 41_decoder.md): PUSH_BYTE, rule by rule.
-/

namespace Sys2Proof.Machine

/-- The magic comparison under MAGIC_CHECK (R153). -/
def magicOk (cfg : Config) (x y : Byte) : Bool :=
  match cfg.magicCheck with
  | .any => x == cfg.magicA && y == cfg.magicB
  | .both => !(x != cfg.magicA && y != cfg.magicB)

/-- The append step (R151): the held packet is dropped, the byte is stored at `rc`, `rc` advances. -/
def State.append (s : State) (b : Byte) : State :=
  { s with rxValid := false, rxBuf := Memory.write s.rxBuf s.rc.toNat b, rc := s.rc + 1 }

/-- The byte belongs to a frame still in progress (R152, R154, R157, R158). -/
def State.progress (s : State) (d : DState) : State := { s with dstate := d, lastRxEvent := .progress }

/-- `discard(e)`, the resynchronisation step of every rejection (R160). -/
def State.discard (s : State) (e : RxEvent) : State :=
  { s with rxBuf := Memory.zero, rc := 0, dstate := .awaitingMagic, lastRxEvent := e }

/-- SLIDE keeps the second byte of a rejected pair, MAGIC_A, as a possible frame start (R156). -/
def State.keepSecond (s : State) : State :=
  { s with
    rxBuf := Memory.write Memory.zero 0 (Memory.read s.rxBuf 1), rc := 1, dstate := .awaitingMagic,
    lastRxEvent := .magicErr }

/-- The packet of a complete frame of `tl` bytes (R162). -/
def framePacket (m : Memory) (tl : Nat) : Packet where
  seq := Memory.read m 4
  flags := Memory.read m 6
  cmd := Memory.read m 7
  payload := Memory.readBytes m 8 (tl - 8)

/-- Acceptance of a valid frame of `tl` bytes (R159, R162): `rc` is 0, `rx_buf` is kept. -/
def State.accept (s : State) (tl : Nat) : State :=
  { s with
    rc := 0, rxPkt := framePacket s.rxBuf tl, rxValid := true, dstate := .frameComplete, lastRxEvent := .frameOk }

/-- Validation of a complete frame (R161): first the length, then the checksum. -/
def State.complete (s : State) : State :=
  let tl := s.rc.toNat
  if tl < 8 ∨ tl ≠ 8 + (Memory.read s.rxBuf 5).toNat then s.discard .lengthErr
  else if chk s.cfg (Memory.readBytes s.rxBuf 4 (tl - 4)) ≠ Memory.read s.rxBuf 3 then s.discard .checksumErr
  else s.accept tl

/-- The total_length byte is outside `8..FRAME_MAX` (R157). -/
def lengthOutOfRange (cfg : Config) (tl : Byte) : Bool := decide (tl.toNat < 8) || decide (cfg.frameMax < tl.toNat)

/-- What the decoder does after the append, by the position the byte took (R164). -/
def State.classify (s : State) : State :=
  if s.rc.toNat < 2 then s.progress .awaitingMagic
  else if s.rc.toNat = 2 then
    if magicOk s.cfg (Memory.read s.rxBuf 0) (Memory.read s.rxBuf 1) then s.progress .awaitingLength
    else if s.cfg.resync = .slide ∧ Memory.read s.rxBuf 1 = s.cfg.magicA then s.keepSecond
    else s.discard .magicErr
  else if s.rc.toNat = 3 then
    if s.cfg.earlyLengthCheck ∧ lengthOutOfRange s.cfg (Memory.read s.rxBuf 2) then s.discard .lengthErr
    else s.progress .accumulatingPayload
  else if s.rc.toNat = 4 ∨ s.rc ≠ Memory.read s.rxBuf 2 then s.progress .accumulatingPayload
  else s.complete

/-- PUSH_BYTE's outputs: the event, and the packet when the event is FRAME_OK (R150). -/
def State.drivePush (s : State) : State :=
  s.drive (.push (if s.lastRxEvent = .frameOk then some s.rxPkt else none) s.lastRxEvent) []

/-- PUSH_BYTE (R164). At `rc = FRAME_MAX` it raises DECODE_OVERRUN (R171); an `rc` above FRAME_MAX, which no run reaches,
would index outside the buffer (R70). -/
def execPushByte (b : Byte) (s : State) : Result :=
  unlessFaulted s fun s =>
    if s.rc.toNat = s.cfg.frameMax then .next (s.raiseFault .decodeOverrun [])
    else if s.cfg.frameMax < s.rc.toNat then .fault (.badAddress .rx s.rc.toNat)
    else .next ((s.append b).classify.drivePush)

end Sys2Proof.Machine
end

