-- ==== Sys2Proof/Machine/Operands.lean ====
section
/-!
DEFINITION. The operand forms: multi-byte payload fields (spec 20_memory.md R64, 00_scope.md R26), the fixed-length strings
of the data channel (42_dispatch.md R180), and the extraction of a field from a received payload (30_encoding.md R105).
-/

namespace Sys2Proof.Machine

/-- `le_N(v)` on `n` bytes: least significant byte first (R26). -/
def leBytes : Nat → Nat → Bytes
  | 0, _ => []
  | n + 1, v => BitVec.ofNat 8 v :: leBytes n (v / 256)

/-- The value of a little-endian byte string (R26). -/
def leVal : Bytes → Nat
  | [] => 0
  | b :: bs => b.toNat + 256 * leVal bs

/-- `bytes_N(v)` with N/8 = `n` (R26, R64). -/
def bytesN (e : Endian) (n v : Nat) : Bytes :=
  match e with
  | .le => leBytes n v
  | .be => (leBytes n v).reverse

/-- `val_N(s)`, the inverse of `bytes_N` (R26). -/
def valN (e : Endian) (s : Bytes) : Nat :=
  match e with
  | .le => leVal s
  | .be => leVal s.reverse

/-- `bytes_32(v)` (R64). -/
def bytes32 (cfg : Config) (v : Word32) : Bytes := bytesN cfg.endian 4 v.toNat

/-- `bytes_64(v)` (R64). -/
def bytes64 (cfg : Config) (v : Word64) : Bytes := bytesN cfg.endian 8 v.toNat

/-- A byte string of `n` zeros (R100). -/
def zeros (n : Nat) : Bytes := List.replicate n 0

/-- The `n` bytes of a fixed-length string operand (R180). A string of the wrong length cannot be presented; the plain list
that holds the operand stands for its first `n` bytes, a byte it does not list being 0 (log entry 6). -/
def lane (n : Nat) (s : Bytes) : Bytes := (s ++ zeros n).take n

/-- `field_N(p, off)` with N/8 = `n` (R105): 0 where the payload is too short. -/
def fieldN (e : Endian) (n : Nat) (p : Bytes) (off : Nat) : Nat :=
  if off + n ≤ p.length then valN e ((p.drop off).take n) else 0

/-- `field_bytes(p, off, L)` (R105): zeros where the payload is too short. -/
def fieldBytes (p : Bytes) (off len : Nat) : Bytes :=
  if off + len ≤ p.length then (p.drop off).take len else zeros len

/-- `blob_flags(p)` (R105, R46). -/
def blobFlags : Bytes → Byte
  | [] => 0
  | b :: _ => b

/-- `blob(p)` (R105). -/
def blob : Bytes → Bytes
  | [] => []
  | _ :: bs => bs

end Sys2Proof.Machine
end

