-- ==== Sys2Proof/Machine/Engine.lean ====
section
/-!
DEFINITION. The shared operations of the Command Dispatch Engine (spec 42_dispatch.md R180 to R183): how a built payload
becomes a request or a response, how a route is reported, and the payloads and routes that several commands share.
-/

namespace Sys2Proof.Machine

/-- A payload as a command builds it, with the asks made on the way, or the fault building it raises. -/
structure Built where
  asks : List Ask
  payload : Except FaultCode Bytes

/-- What ON_RECEIVE does with a packet: the route, the asks, and the new value of `configured`. -/
structure Routed where
  route : Route
  asks : List Ask
  configured : Bool

/-- A payload built without an ask. -/
def Built.plain (pl : Bytes) : Built := { asks := [], payload := .ok pl }

/-- The empty payload: of every request without arguments (R93) and of every status-only acknowledgement (R182). -/
def Built.empty : Built := Built.plain []

/-- No action on receipt: route NONE, `configured` kept (R183). -/
def Routed.nothing (s : State) : Routed := { route := .noRoute, asks := [], configured := s.configured }

/-- The request packet of a built payload (R180): seq from `seq_ctr`, RE from the operand, IR 0. -/
def requestPacket (s : State) (c : Byte) (re : Bool) (pl : Bytes) : Packet :=
  { seq := s.seqCtr, flags := requestFlags s.cfg re, cmd := c, payload := pl }

/-- The response to `q` with a built payload (R182): seq and cmd copied, RE 0, IR 1. -/
def responsePacket (cfg : Config) (q : Packet) (pl : Bytes) : Packet :=
  { seq := q.seq, flags := responseFlags cfg, cmd := q.cmd, payload := pl }

/-- The end of BUILD_REQUEST once the payload is built (R180, R181): a fault of the building, then FRAME_OVERFLOW, then the
packet with the next sequence number. -/
def finishRequest (c : Byte) (re : Bool) (b : Built) (s : State) : State :=
  match b.payload with
  | .error code => s.raiseFault code b.asks
  | .ok pl =>
    if overflows s.cfg pl.length then s.raiseFault .frameOverflow b.asks
    else s.bumpSeq.drive (.request (requestPacket s c re pl)) b.asks

/-- BUILD_RESPONSE for the held packet `q` (R182): none unless it wants a response; then the payload, FRAME_OVERFLOW if it
is too long, else the response. -/
def finishResponse (q : Packet) (b : Built) (s : State) : State :=
  if wantsResponse s.cfg q.flags then
    match b.payload with
    | .error code => s.raiseFault code b.asks
    | .ok pl =>
      if overflows s.cfg pl.length then s.raiseFault .frameOverflow b.asks
      else s.drive (.response (some (responsePacket s.cfg q pl))) b.asks
  else s.drive (.response none) []

/-- The end of ON_RECEIVE (R183). -/
def finishReceive (r : Routed) (s : State) : State :=
  (s.setConfigured r.configured).drive (.route r.route) r.asks

/-- A command run as an instruction (log entry 2): the action the data channel names, with the command's code and the
command's own request payload, response payload and receive action. A response or a receive acts on the held packet as a
packet of this command. -/
def runCommand (code : Byte) (req : State → Built) (resp : Packet → State → Built) (recv : Packet → State → Routed)
    (s : State) : Result :=
  unlessFaulted s fun s =>
    match s.data.action with
    | .request re => .next (finishRequest code re (req s) s)
    | .response => withPacket s fun q => .next (finishResponse { q with cmd := code } (resp q s) s)
    | .receive => withPacket s fun q => .next (finishReceive (recv q s) s)

/-- A response without payload, the status-only acknowledgement of "all other commands" (R182). -/
def ackResponse (_q : Packet) (_s : State) : Built := Built.empty

/-- A receive without action (R183). -/
def noReceive (_q : Packet) (s : State) : Routed := Routed.nothing s

/-- `[ET or STORE] ++ blob`: a store, or a response that carries a blob (R97, R98). -/
def storePayload (cfg : Config) (b : Bytes) : Bytes := storeFlags cfg :: b

/-- `[FETCH]`: a fetch request (R97, R98). -/
def fetchPayload (cfg : Config) : Bytes := [fetchFlags cfg]

end Sys2Proof.Machine
end

