-- ==== Sys2Proof/Machine/Commands.lean ====
section
/-!
DEFINITION. The fifteen commands of the catalog (spec 42_dispatch.md R185 to R199, payload layouts 30_encoding.md R93 to
R109): each command's request payload, response payload and receive action where they are its own, and the meaning of the
command as an instruction.
-/

namespace Sys2Proof.Machine

/-- PING request (R94, R185). -/
def pingRequest (s : State) : Built := Built.plain s.cfg.pingText

/-- PING response (R94, R185). -/
def pingResponse (_q : Packet) (s : State) : Built := Built.plain s.cfg.pongText

/-- AUTH request (R95, R186). -/
def authRequest (s : State) : Built :=
  Built.plain (lane s.cfg.ssidLen s.data.ssid ++ lane s.cfg.passLen s.data.pass)

/-- INFO request (R96, R187). -/
def infoRequest (_s : State) : Built := Built.empty

/-- CONFIG request (R97, R188): no blob is a fetch, a blob is a store. -/
def configRequest (s : State) : Built :=
  match s.data.blob with
  | none => Built.plain (fetchPayload s.cfg)
  | some b => Built.plain (storePayload s.cfg b)

/-- CONFIG response (R97, R188): the Device Record's config blob. -/
def configResponse (_q : Packet) (s : State) : Built :=
  { asks := [.configBlob], payload := .ok (storePayload s.cfg s.answers.configBlob) }

/-- CONFIG on receipt (R183, R188): with ET set, the host applies the blob and answers the new `configured`. -/
def configReceive (q : Packet) (s : State) : Routed :=
  if isEncodedText s.cfg (blobFlags q.payload) then
    { route := .applyConfig, asks := [.applyConfig (blob q.payload) (blob q.payload).length],
      configured := s.answers.applyConfig }
  else Routed.nothing s

/-- `export_state`'s contract (R189): at most `max_len = PMAX - 1` bytes, and as many as announced. -/
def exportKeepsContract (s : State) : Bool :=
  decide (s.answers.exportLen ≤ s.cfg.pmax - 1) && s.answers.exportData.length == s.answers.exportLen

/-- STATE request (R98, R189): a fetch, or a store filled by `export_state`; a broken contract is CALLBACK_CONTRACT (R255). -/
def stateRequest (s : State) : Built :=
  if s.data.store then
    { asks := [.exportState (s.cfg.pmax - 1)]
      payload :=
        if exportKeepsContract s then .ok (storePayload s.cfg s.answers.exportData) else .error .callbackContract }
  else Built.plain (fetchPayload s.cfg)

/-- STATE response (R98, R189): a fetch is answered with the Device Record's state blob, anything else with no payload. -/
def stateResponse (q : Packet) (s : State) : Built :=
  if isFetch s.cfg (blobFlags q.payload) then
    { asks := [.stateBlob], payload := .ok (storePayload s.cfg s.answers.stateBlob) }
  else Built.empty

/-- STATE on receipt (R183, R189): with ET and STORE set, the host restores the blob; its status is discarded. -/
def stateReceive (q : Packet) (s : State) : Routed :=
  if isEncodedText s.cfg (blobFlags q.payload) ∧ isStore s.cfg (blobFlags q.payload) then
    { route := .restoreState, asks := [.restoreState (blob q.payload) (blob q.payload).length],
      configured := s.configured }
  else Routed.nothing s

/-- STATUS request (R99, R190). -/
def statusRequest (_s : State) : Built := Built.empty

/-- The data field of a log record (R100): the text field, or the float's pattern, the integer's pattern and zeros. -/
def logData (cfg : Config) (g : LogArgs) : Bytes :=
  if cfg.isTextLog g.logType then lane cfg.logDataLen g.text
  else bytes32 cfg g.fbits ++ bytes32 cfg g.ival ++ zeros (cfg.logDataLen - 8)

/-- A serialised log-event record (R100). -/
def logRecord (cfg : Config) (g : LogArgs) : Bytes :=
  [g.logType, g.status, g.source, g.sourceIndex] ++ bytes32 cfg g.timestamp ++ bytes32 cfg g.count ++ logData cfg g

/-- LOG request (R100, R191). -/
def logRequest (s : State) : Built := Built.plain (logRecord s.cfg s.data.log)

/-- TIME request (R101, R192). -/
def timeRequest (s : State) : Built := Built.plain (bytes32 s.cfg s.data.tMs)

/-- TIME response (R101, R192): the host's current time. -/
def timeResponse (_q : Packet) (s : State) : Built :=
  { asks := [.nowMs], payload := .ok (bytes32 s.cfg s.answers.nowMs) }

/-- SCHEDULE_WAKEUP request (R102, R193). -/
def scheduleWakeupRequest (s : State) : Built := Built.plain (bytes32 s.cfg s.data.durationMs)

/-- NODE_SLEEP request (R103, R194). -/
def nodeSleepRequest (s : State) : Built := Built.plain (bytes32 s.cfg s.data.deadlineMs)

/-- NODE_AWAKE request (R104, R195). -/
def nodeAwakeRequest (_s : State) : Built := Built.empty

/-- OTA request (R92, R106, R196). -/
def otaRequest (_s : State) : Built := Built.empty

/-- VMCU_OTA request (R92, R106, R197). -/
def vmcuOtaRequest (_s : State) : Built := Built.empty

/-- SET_NODE_PROPERTIES request (R107, R198). -/
def setNodePropertiesRequest (s : State) : Built := Built.plain (bytes32 s.cfg s.data.props ++ bytes64 s.cfg s.data.aux)

/-- DEBUG_BLINK request (R108, R199). -/
def debugBlinkRequest (_s : State) : Built := Built.empty

/-- `req_payload(c, args)` for a command of the catalog (R180). -/
def requestPayload : Command → State → Built
  | .ping => pingRequest
  | .auth => authRequest
  | .info => infoRequest
  | .config => configRequest
  | .state => stateRequest
  | .status => statusRequest
  | .log => logRequest
  | .time => timeRequest
  | .scheduleWakeup => scheduleWakeupRequest
  | .nodeSleep => nodeSleepRequest
  | .nodeAwake => nodeAwakeRequest
  | .ota => otaRequest
  | .vmcuOta => vmcuOtaRequest
  | .setNodeProperties => setNodePropertiesRequest
  | .debugBlink => debugBlinkRequest

/-- The payload of a response, by the request's command (R182). -/
def responsePayload : Option Command → Packet → State → Built
  | some .ping => pingResponse
  | some .time => timeResponse
  | some .config => configResponse
  | some .state => stateResponse
  | some .auth | some .info | some .status | some .log | some .scheduleWakeup | some .nodeSleep | some .nodeAwake
  | some .ota | some .vmcuOta | some .setNodeProperties | some .debugBlink => ackResponse
  | none => ackResponse

/-- The receive action, by the packet's command (R183). -/
def receiveAction : Option Command → Packet → State → Routed
  | some .config => configReceive
  | some .state => stateReceive
  | some .ping | some .auth | some .info | some .status | some .log | some .time | some .scheduleWakeup
  | some .nodeSleep | some .nodeAwake | some .ota | some .vmcuOta | some .setNodeProperties | some .debugBlink => noReceive
  | none => noReceive

/-- PING (R185). -/
def execCmdPing (s : State) : Result := runCommand (s.cfg.code .ping) pingRequest pingResponse noReceive s

/-- AUTH (R186). -/
def execCmdAuth (s : State) : Result := runCommand (s.cfg.code .auth) authRequest ackResponse noReceive s

/-- INFO (R187). -/
def execCmdInfo (s : State) : Result := runCommand (s.cfg.code .info) infoRequest ackResponse noReceive s

/-- CONFIG (R188). -/
def execCmdConfig (s : State) : Result := runCommand (s.cfg.code .config) configRequest configResponse configReceive s

/-- STATE (R189). -/
def execCmdState (s : State) : Result := runCommand (s.cfg.code .state) stateRequest stateResponse stateReceive s

/-- STATUS (R190). -/
def execCmdStatus (s : State) : Result := runCommand (s.cfg.code .status) statusRequest ackResponse noReceive s

/-- LOG (R191); the block does not call `on_log` (R184). -/
def execCmdLog (s : State) : Result := runCommand (s.cfg.code .log) logRequest ackResponse noReceive s

/-- TIME (R192). -/
def execCmdTime (s : State) : Result := runCommand (s.cfg.code .time) timeRequest timeResponse noReceive s

/-- SCHEDULE_WAKEUP (R193). -/
def execCmdScheduleWakeup (s : State) : Result :=
  runCommand (s.cfg.code .scheduleWakeup) scheduleWakeupRequest ackResponse noReceive s

/-- NODE_SLEEP (R194). -/
def execCmdNodeSleep (s : State) : Result :=
  runCommand (s.cfg.code .nodeSleep) nodeSleepRequest ackResponse noReceive s

/-- NODE_AWAKE (R195). -/
def execCmdNodeAwake (s : State) : Result :=
  runCommand (s.cfg.code .nodeAwake) nodeAwakeRequest ackResponse noReceive s

/-- OTA (R196): no firmware transfer takes place. -/
def execCmdOta (s : State) : Result := runCommand (s.cfg.code .ota) otaRequest ackResponse noReceive s

/-- VMCU_OTA (R197). -/
def execCmdVmcuOta (s : State) : Result := runCommand (s.cfg.code .vmcuOta) vmcuOtaRequest ackResponse noReceive s

/-- SET_NODE_PROPERTIES (R198); `props` is opaque (R107). -/
def execCmdSetNodeProperties (s : State) : Result :=
  runCommand (s.cfg.code .setNodeProperties) setNodePropertiesRequest ackResponse noReceive s

/-- DEBUG_BLINK (R199). -/
def execCmdDebugBlink (s : State) : Result :=
  runCommand (s.cfg.code .debugBlink) debugBlinkRequest ackResponse noReceive s

/-- A command byte outside the catalog run as an instruction (R91, R200): a request has no payload shape and raises
ILLEGAL_OP; a response is the empty acknowledgement; a receive routes NONE. -/
def runUncatalogued (code : Byte) (s : State) : Result :=
  runCommand code (fun _ => { asks := [], payload := .error .illegalOp }) ackResponse noReceive s

end Sys2Proof.Machine
end

