-- ==== Sys2Proof/Machine/Requests.lean ====
section
/-!
DEFINITION. The three port operations of the Command Dispatch Engine: BUILD_REQUEST, BUILD_RESPONSE and ON_RECEIVE
(spec 42_dispatch.md R180 to R184, R200).
-/

namespace Sys2Proof.Machine

/-- BUILD_REQUEST (R180): an unknown command code raises ILLEGAL_OP (R200). -/
def execBuildRequest (c : Byte) (re : Bool) (s : State) : Result :=
  unlessFaulted s fun s =>
    match s.cfg.commandOf c with
    | none => .next (s.raiseFault .illegalOp [])
    | some k => .next (finishRequest c re (requestPayload k s) s)

/-- BUILD_RESPONSE (R182). -/
def execBuildResponse (s : State) : Result :=
  unlessFaulted s fun s =>
    withPacket s fun q => .next (finishResponse q (responsePayload (s.cfg.commandOf q.cmd) q s) s)

/-- ON_RECEIVE (R183). -/
def execOnReceive (s : State) : Result :=
  unlessFaulted s fun s =>
    withPacket s fun q => .next (finishReceive (receiveAction (s.cfg.commandOf q.cmd) q s) s)

end Sys2Proof.Machine
end

