-- ==== Sys2Proof/Syntax.lean ====
section
/-!
DEFINITION. The instructions of the block: one constructor for each row of spec/opcode_table.json, that is the nine
operations of the port (30_encoding.md R111) and the fifteen command codes of a frame (30_encoding.md R90).
A constructor carries what its own encoding carries: the byte of PUSH_BYTE, the command code and `re` of BUILD_REQUEST.
Every other operand arrives on the data channel (R111), which is a field of the machine's state.
-/

namespace Sys2Proof

/-- The instructions of the opcode table. -/
inductive Instr
  /-- RESET (R240). -/
  | reset
  /-- ENCODE (R131). -/
  | encode
  /-- CHECKSUM (R134). -/
  | checksum
  /-- PUSH_BYTE (R164): `b` is `imm8`. -/
  | pushByte (b : Byte)
  /-- BUILD_REQUEST (R180): `c` is `imm8`, the command code; `re` is bit 16. -/
  | buildRequest (c : Byte) (re : Bool)
  /-- BUILD_RESPONSE (R182). -/
  | buildResponse
  /-- ON_RECEIVE (R183). -/
  | onReceive
  /-- TX_FRAME (R241). -/
  | txFrame
  /-- READ_STATUS (R242). -/
  | readStatus
  /-- The command PING (R185). -/
  | cmdPing
  /-- The command AUTH (R186). -/
  | cmdAuth
  /-- The command INFO (R187). -/
  | cmdInfo
  /-- The command CONFIG (R188). -/
  | cmdConfig
  /-- The command STATE (R189). -/
  | cmdState
  /-- The command STATUS (R190). -/
  | cmdStatus
  /-- The command LOG (R191). -/
  | cmdLog
  /-- The command TIME (R192). -/
  | cmdTime
  /-- The command SCHEDULE_WAKEUP (R193). -/
  | cmdScheduleWakeup
  /-- The command NODE_SLEEP (R194). -/
  | cmdNodeSleep
  /-- The command NODE_AWAKE (R195). -/
  | cmdNodeAwake
  /-- The command OTA (R196). -/
  | cmdOta
  /-- The command VMCU_OTA (R197). -/
  | cmdVmcuOta
  /-- The command SET_NODE_PROPERTIES (R198). -/
  | cmdSetNodeProperties
  /-- The command DEBUG_BLINK (R199). -/
  | cmdDebugBlink
  deriving DecidableEq, Repr

end Sys2Proof
end

