-- ==== Sys2Proof/Machine/Dispatch.lean ====
section
/-!
DEFINITION. The meaning of each instruction: one arm for each constructor of `Instr`.
-/

namespace Sys2Proof.Machine

/-- Runs one instruction, with the operands and answers that stand on the port. -/
def exec (i : Instr) (s : State) : Host.Outcome State Fault Refusal :=
  match i with
  | .reset => Sys2Proof.Machine.execReset s
  | .encode => Sys2Proof.Machine.execEncode s
  | .checksum => Sys2Proof.Machine.execChecksum s
  | .pushByte b => Sys2Proof.Machine.execPushByte b s
  | .buildRequest c re => Sys2Proof.Machine.execBuildRequest c re s
  | .buildResponse => Sys2Proof.Machine.execBuildResponse s
  | .onReceive => Sys2Proof.Machine.execOnReceive s
  | .txFrame => Sys2Proof.Machine.execTxFrame s
  | .readStatus => Sys2Proof.Machine.execReadStatus s
  | .cmdPing => Sys2Proof.Machine.execCmdPing s
  | .cmdAuth => Sys2Proof.Machine.execCmdAuth s
  | .cmdInfo => Sys2Proof.Machine.execCmdInfo s
  | .cmdConfig => Sys2Proof.Machine.execCmdConfig s
  | .cmdState => Sys2Proof.Machine.execCmdState s
  | .cmdStatus => Sys2Proof.Machine.execCmdStatus s
  | .cmdLog => Sys2Proof.Machine.execCmdLog s
  | .cmdTime => Sys2Proof.Machine.execCmdTime s
  | .cmdScheduleWakeup => Sys2Proof.Machine.execCmdScheduleWakeup s
  | .cmdNodeSleep => Sys2Proof.Machine.execCmdNodeSleep s
  | .cmdNodeAwake => Sys2Proof.Machine.execCmdNodeAwake s
  | .cmdOta => Sys2Proof.Machine.execCmdOta s
  | .cmdVmcuOta => Sys2Proof.Machine.execCmdVmcuOta s
  | .cmdSetNodeProperties => Sys2Proof.Machine.execCmdSetNodeProperties s
  | .cmdDebugBlink => Sys2Proof.Machine.execCmdDebugBlink s

end Sys2Proof.Machine
end

