-- ==== Sys2Proof/Decode.lean ====
section
/-!
DEFINITION. Decoding and encoding: the port command word (spec 30_encoding.md R111, and the match and mask of each row of
the opcode table) and the frame command byte (R90). Both are total; what is not an instruction is rejected by name.
-/

namespace Sys2Proof

open Machine (Code)

/-- Why a selection is no instruction. The first four are the illegal port command words of R111. -/
inductive DecodeError
  /-- `opsel` is 0x9 to 0xF. -/
  | reservedOpsel
  /-- A reserved bit, [7:4] or [31:17], is set. -/
  | reservedBit
  /-- `imm8` is not 0 in an operation that does not use it. -/
  | unusedImm8
  /-- `re` is 1 in an operation that does not use it. -/
  | unusedRe
  /-- A command byte outside the image of CMD_CODE (R91). -/
  | uncatalogued
  deriving DecidableEq, Repr

/-- `opsel`, bits [3:0] of a port command word (R111). -/
def opsel (w : Word32) : BitVec 4 := w.extractLsb' 0 4

/-- `imm8`, bits [15:8] of a port command word (R111). -/
def imm8 (w : Word32) : Byte := w.extractLsb' 8 8

/-- `re`, bit 16 of a port command word (R111). -/
def reField (w : Word32) : Bool := w.getLsbD 16

/-- The reserved bits [7:4] and [31:17] of a port command word are all 0 (R111). -/
def reservedClear (w : Word32) : Bool := w.extractLsb' 4 4 == 0 && w.extractLsb' 17 15 == 0

/-- An operation that uses neither `imm8` nor `re`: both must be 0 (R111). -/
def plainOp (w : Word32) (i : Instr) : Except DecodeError Instr :=
  if imm8 w != 0 then .error .unusedImm8 else if reField w then .error .unusedRe else .ok i

/-- The operation a port command word selects (R111). -/
def decodePort (w : Word32) : Except DecodeError Instr :=
  if !reservedClear w then .error .reservedBit
  else match (opsel w).toNat with
    | 0 => plainOp w .reset
    | 1 => plainOp w .encode
    | 2 => plainOp w .checksum
    | 3 => if reField w then .error .unusedRe else .ok (.pushByte (imm8 w))
    | 4 => .ok (.buildRequest (imm8 w) (reField w))
    | 5 => plainOp w .buildResponse
    | 6 => plainOp w .onReceive
    | 7 => plainOp w .txFrame
    | 8 => plainOp w .readStatus
    | _ => .error .reservedOpsel

/-- The instruction that stands for a command of the catalog. -/
def Command.instr : Command → Instr
  | .ping => .cmdPing
  | .auth => .cmdAuth
  | .info => .cmdInfo
  | .config => .cmdConfig
  | .state => .cmdState
  | .status => .cmdStatus
  | .log => .cmdLog
  | .time => .cmdTime
  | .scheduleWakeup => .cmdScheduleWakeup
  | .nodeSleep => .cmdNodeSleep
  | .nodeAwake => .cmdNodeAwake
  | .ota => .cmdOta
  | .vmcuOta => .cmdVmcuOta
  | .setNodeProperties => .cmdSetNodeProperties
  | .debugBlink => .cmdDebugBlink

/-- The command a frame's command byte selects (R90), under the parameter CMD_CODE. -/
def decodeCommand (cfg : Config) (b : Byte) : Except DecodeError Instr :=
  match cfg.commandOf b with
  | some k => .ok k.instr
  | none => .error .uncatalogued

/-- The instruction a selection names. -/
def decode (cfg : Config) : Code → Except DecodeError Instr
  | .port w => decodePort w
  | .command b => decodeCommand cfg b

/-- A port command word from its fields (R111); the reserved bits are 0. -/
def portWord (op : BitVec 4) (imm : Byte) (re : Bool) : Word32 :=
  (0 : BitVec 15) ++ BitVec.ofBool re ++ imm ++ (0 : BitVec 4) ++ op

/-- The selection of an instruction: the word or byte of its row of the opcode table. -/
def encode (cfg : Config) : Instr → Code
  | .reset => .port (portWord 0 0 false)
  | .encode => .port (portWord 1 0 false)
  | .checksum => .port (portWord 2 0 false)
  | .pushByte b => .port (portWord 3 b false)
  | .buildRequest c re => .port (portWord 4 c re)
  | .buildResponse => .port (portWord 5 0 false)
  | .onReceive => .port (portWord 6 0 false)
  | .txFrame => .port (portWord 7 0 false)
  | .readStatus => .port (portWord 8 0 false)
  | .cmdPing => .command (cfg.code .ping)
  | .cmdAuth => .command (cfg.code .auth)
  | .cmdInfo => .command (cfg.code .info)
  | .cmdConfig => .command (cfg.code .config)
  | .cmdState => .command (cfg.code .state)
  | .cmdStatus => .command (cfg.code .status)
  | .cmdLog => .command (cfg.code .log)
  | .cmdTime => .command (cfg.code .time)
  | .cmdScheduleWakeup => .command (cfg.code .scheduleWakeup)
  | .cmdNodeSleep => .command (cfg.code .nodeSleep)
  | .cmdNodeAwake => .command (cfg.code .nodeAwake)
  | .cmdOta => .command (cfg.code .ota)
  | .cmdVmcuOta => .command (cfg.code .vmcuOta)
  | .cmdSetNodeProperties => .command (cfg.code .setNodeProperties)
  | .cmdDebugBlink => .command (cfg.code .debugBlink)

/-- The selection whose opcode-table bits are `w`: the table's rows are 32-bit port words and 8-bit command bytes. -/
def codeOf (nbits w : Nat) : Option Code :=
  match nbits with
  | 32 => some (.port (BitVec.ofNat 32 w))
  | 8 => some (.command (BitVec.ofNat 8 w))
  | _ => none

/-- The instruction the decoder reads from a row's bits, under the default parameters (the table's command codes are the
default CMD_CODE). -/
def decodeTableWord (nbits w : Nat) : Option Instr :=
  match codeOf nbits w with
  | none => none
  | some c =>
    match decode Config.default c with
    | .ok i => some i
    | .error _ => none

end Sys2Proof
end

