-- ==== Sys2Proof/Machine/Fetch.lean ====
section
/-!
DEFINITION. What `step` calls around `exec`: a selection that is no instruction, and a row of the opcode table placed where
the next step takes it.
-/

namespace Sys2Proof.Machine

/-- A selection the decoder rejects: an illegal port command word raises ILLEGAL_OP (R256), after the sticky-fault check
(R261); a command byte outside the catalog is not illegal by itself (R91, R200). -/
def runUndecoded (c : Code) (s : State) : Result :=
  match c with
  | .port _ => illegalOp s
  | .command b => runUncatalogued b s

/-- The operation whose opcode-table bits are `w`, issued next, with the operands and answers already on the port. -/
def State.placeNext (s : State) (nbits w : Nat) : State :=
  match codeOf nbits w with
  | none => s
  | some c => { s with pending := { code := c, data := s.data, answers := s.answers } :: s.pending }

end Sys2Proof.Machine
end

