-- ==== Sys2Proof/Machine/Step.lean ====
section
/-!
DEFINITION. One step of the block: the host issues its next operation and the block performs it as one atomic step
(spec 00_scope.md R7, R8; 20_memory.md R67, R71).
-/

namespace Sys2Proof.Machine

/-- One step: the next operation the host issues comes onto the port and is performed. Only the host's operations move the
block (R8), so with none issued the state stays as it is. -/
def step (s : State) : Host.Outcome State Fault Refusal :=
  match s.pending with
  | [] => .next s
  | r :: rest =>
    match decode s.cfg r.code with
    | .ok i => exec i (s.latch r rest)
    | .error _ => runUndecoded r.code (s.latch r rest)

/-- `s` with the opcode-table row's bits `w` as the operation the next step performs (log entry 4). -/
def State.withFetchWord (s : State) (nbits w : Nat) : State := s.placeNext nbits w

end Sys2Proof.Machine
end

