-- ==== Sys2Proof/WellFormed.lean ====
section
/-!
DEFINITION. Well-formedness checks: of the parameters (spec 00_scope.md R9 to R23), of an instruction under them
(42_dispatch.md R180: a request names a command of the catalog), of a packet value (10_state.md R44) and of the operands on
the data channel (42_dispatch.md R180: each argument has exactly the type given). The machine itself is total: it runs on
ill-formed terms too, and the spec says what an unknown command code does (R200).
-/

namespace Sys2Proof

/-- The parameters are legal: the range of FRAME_MAX (R9), one code for each of the 15 commands and all codes different
(R12), flags of one byte at different bits (R13, R14; DEDUCED, log entry 3), texts that fit a frame (R21), and room for the
pair form of a log record where some type uses it (R100). -/
def Config.wf (cfg : Config) : Bool :=
  decide (8 ≤ cfg.frameMax) && decide (cfg.frameMax ≤ 255)
    && cfg.cmdCodes.length == 15 && decide cfg.cmdCodes.Nodup
    && cfg.reBit != cfg.irBit
    && cfg.etBit != cfg.storeBit && cfg.etBit != cfg.fetchBit && cfg.storeBit != cfg.fetchBit
    && decide (cfg.pingText.length ≤ cfg.pmax) && decide (cfg.pongText.length ≤ cfg.pmax)
    && (decide (8 ≤ cfg.logDataLen) || cfg.logIsText == BitVec.allOnes 256)

/-- An instruction is well formed: a BUILD_REQUEST names a command of the catalog (R180, R200). Every other instruction's
fields are legal at every value. -/
def Instr.wf (cfg : Config) : Instr → Bool
  | .buildRequest c _ => (cfg.commandOf c).isSome
  | .reset | .encode | .checksum | .pushByte _ | .buildResponse | .onReceive | .txFrame | .readStatus
  | .cmdPing | .cmdAuth | .cmdInfo | .cmdConfig | .cmdState | .cmdStatus | .cmdLog | .cmdTime | .cmdScheduleWakeup
  | .cmdNodeSleep | .cmdNodeAwake | .cmdOta | .cmdVmcuOta | .cmdSetNodeProperties | .cmdDebugBlink => true

/-- A packet value's payload has at most 255 bytes (R44). -/
def Machine.Packet.wf (p : Machine.Packet) : Bool := decide (p.payload.length ≤ 255)

/-- The operands on the data channel have the types of R180: fixed-length strings have their lengths, and the packet is a
packet value. -/
def Machine.DataChannel.wf (cfg : Config) (d : Machine.DataChannel) : Bool :=
  d.packet.wf && d.ssid.length == cfg.ssidLen && d.pass.length == cfg.passLen
    && (d.log.text.length == cfg.logDataLen || !cfg.isTextLog d.log.logType)

end Sys2Proof
end

