-- ==== Sys2Proof/Safety.lean ====
section
/-!
DEFINITION. The terms claims are stated in: the invariant of the machine, reachable states, runs of instructions, the decoder
as a machine over lists, and the states that only differ in what no rule reads.
-/

namespace Sys2Proof.Machine

/-- Both buffers are in canonical form and list only indexes `0..FRAME_MAX-1` (spec 20_memory.md R60, R70). -/
abbrev State.BuffersOk (s : State) : Prop :=
  Memory.wf s.rxBuf ∧ Memory.within s.rxBuf s.cfg.frameMax ∧ Memory.wf s.txBuf ∧ Memory.within s.txBuf s.cfg.frameMax

/-- The invariant between `dstate` and `rc` (10_state.md R43), with the range of an accepted length byte under the early length
check (41_decoder.md R157, R171). -/
abbrev State.DecoderOk (s : State) : Prop :=
  (s.dstate = .awaitingMagic ∧ s.rc.toNat ≤ 1)
    ∨ (s.dstate = .awaitingLength ∧ s.rc.toNat = 2)
    ∨ (s.dstate = .accumulatingPayload ∧ 3 ≤ s.rc.toNat ∧ s.rc.toNat ≤ s.cfg.frameMax
        ∧ (s.cfg.earlyLengthCheck = true →
            8 ≤ (Memory.read s.rxBuf 2).toNat ∧ s.rc.toNat < (Memory.read s.rxBuf 2).toNat
              ∧ (Memory.read s.rxBuf 2).toNat ≤ s.cfg.frameMax))
    ∨ (s.dstate = .frameComplete ∧ s.rc.toNat = 0)

/-- A packet is held exactly in FrameComplete, which is exactly after FRAME_OK (R35, R37, R38), and a held packet fits a
frame. -/
abbrev State.PacketOk (s : State) : Prop :=
  (s.rxValid = true ↔ s.dstate = .frameComplete) ∧ (s.lastRxEvent = .frameOk ↔ s.dstate = .frameComplete)
    ∧ (s.rxValid = true → s.rxPkt.payload.length ≤ s.cfg.pmax)

/-- `tx_buf` holds no frame yet (`tx_len = 0`) or a whole frame of `tx_len` bytes (R39, R40, R82), and an untaken frame is
one that was encoded (R41). -/
abbrev State.TxOk (s : State) : Prop :=
  (s.txLen.toNat = 0 ∧ s.txPending = false)
    ∨ (8 ≤ s.txLen.toNat ∧ s.txLen.toNat ≤ s.cfg.frameMax
        ∧ Memory.readBytes s.txBuf 0 s.txLen.toNat = frameBytes s.cfg (framePacket s.txBuf s.txLen.toNat))

/-- DECODE_OVERRUN is raised only without the early length check (41_decoder.md R171). -/
abbrev State.FaultOk (s : State) : Prop := s.fault = .decodeOverrun → s.cfg.earlyLengthCheck = false

/-- The invariant of the machine. -/
abbrev State.Inv (s : State) : Prop :=
  s.cfg.wf = true ∧ s.BuffersOk ∧ s.DecoderOk ∧ s.PacketOk ∧ s.TxOk ∧ s.FaultOk

/-- The states of the runs under `cfg`: the reset state with any operations to issue, and every next state. -/
inductive Reachable (cfg : Config) : State → Prop
  | start (ops : List PortRequest) : Reachable cfg { State.initial cfg with pending := ops }
  | step (s t : State) : Reachable cfg s → step s = .next t → Reachable cfg t

/-- Runs instructions one after another, on the operands that stand on the port. -/
def runInstrs : List Instr → State → Result
  | [], s => .next s
  | i :: is, s =>
    match exec i s with
    | .next t => runInstrs is t
    | .fault r => .fault r
    | .refused r => .refused r

/-- Delivers a byte string to the decoder, one PUSH_BYTE a byte. -/
def pushBytes (bs : Bytes) (s : State) : Result := runInstrs (bs.map Instr.pushByte) s

/-- `s` with `p` as ENCODE's operand. -/
def State.offer (s : State) (p : Packet) : State := { s with data := { s.data with packet := p } }

/-- `s` with `a` as the action of a command run as an instruction. -/
def State.act (s : State) (a : CmdAction) : State := { s with data := { s.data with action := a } }

/-- The bytes of the frame attempt now being assembled (10_state.md R47). -/
def State.held (s : State) : Bytes := Memory.readBytes s.rxBuf 0 s.rc.toNat

/-- One byte of the decoder as 41_decoder.md states it, over the list of the bytes held for the attempt: the bytes held
after it, the event, and the packet. -/
def listPush (cfg : Config) (held : Bytes) (b : Byte) : Bytes × RxEvent × Option Packet :=
  let f := held ++ [b]
  match f with
  | [] | [_] => (f, .progress, none)
  | [x, y] =>
    if magicOk cfg x y then (f, .progress, none)
    else if cfg.resync = .slide ∧ y = cfg.magicA then ([y], .magicErr, none)
    else ([], .magicErr, none)
  | [_, _, tl] =>
    if cfg.earlyLengthCheck = true ∧ (tl.toNat < 8 ∨ cfg.frameMax < tl.toNat) then ([], .lengthErr, none)
    else (f, .progress, none)
  | [_, _, _, _] => (f, .progress, none)
  | _ =>
    if f.length ≠ (f.getD 2 0).toNat then (f, .progress, none)
    else if f.length < 8 ∨ f.length ≠ 8 + (f.getD 5 0).toNat then ([], .lengthErr, none)
    else if chk cfg (f.drop 4) ≠ f.getD 3 0 then ([], .checksumErr, none)
    else ([], .frameOk, some { seq := f.getD 4 0, flags := f.getD 6 0, cmd := f.getD 7 0, payload := f.drop 8 })

/-- The decoder state that goes with an event and the number of bytes then held (R35, R152 to R162). -/
def listDState (e : RxEvent) (n : Nat) : DState :=
  match e with
  | .progress => if n < 2 then .awaitingMagic else if n = 2 then .awaitingLength else .accumulatingPayload
  | .frameOk => .frameComplete
  | .noEvent | .magicErr | .lengthErr | .checksumErr => .awaitingMagic

/-- An illegal port command word, in the words of 30_encoding.md R111: a reserved `opsel`, a reserved bit set, or `imm8` or
`re` not 0 in an operation that does not use it. -/
abbrev IllegalWord (w : Word32) : Prop :=
  9 ≤ w.toNat % 16 ∨ w &&& 0xFFFE00F0 ≠ 0
    ∨ ((w.toNat / 256) % 256 ≠ 0 ∧ w.toNat % 16 ≠ 3 ∧ w.toNat % 16 ≠ 4)
    ∨ ((w.toNat / 65536) % 2 ≠ 0 ∧ w.toNat % 16 ≠ 4)

/-- `bytes_32(v)` written out byte by byte (20_memory.md R64). -/
def u32Bytes (e : Endian) (v : Word32) : Bytes :=
  match e with
  | .le => [v.extractLsb' 0 8, v.extractLsb' 8 8, v.extractLsb' 16 8, v.extractLsb' 24 8]
  | .be => [v.extractLsb' 24 8, v.extractLsb' 16 8, v.extractLsb' 8 8, v.extractLsb' 0 8]

/-- `bytes_64(v)` written out byte by byte (20_memory.md R64). -/
def u64Bytes (e : Endian) (v : Word64) : Bytes :=
  match e with
  | .le =>
    [v.extractLsb' 0 8, v.extractLsb' 8 8, v.extractLsb' 16 8, v.extractLsb' 24 8, v.extractLsb' 32 8,
     v.extractLsb' 40 8, v.extractLsb' 48 8, v.extractLsb' 56 8]
  | .be =>
    [v.extractLsb' 56 8, v.extractLsb' 48 8, v.extractLsb' 40 8, v.extractLsb' 32 8, v.extractLsb' 24 8,
     v.extractLsb' 16 8, v.extractLsb' 8 8, v.extractLsb' 0 8]

/-- The state after a request was built: the packet goes out with the number `seq_ctr` holds, which then advances; nothing
else changes (42_dispatch.md R180, R181). -/
def requested (s : State) (k : Command) (re : Bool) (pl : Bytes) (asks : List Ask) : State :=
  { s with
    seqCtr := s.seqCtr + 1
    out :=
      { status := .ok
        val := .request { seq := s.seqCtr, flags := if re then 1 <<< s.cfg.reBit.val else 0, cmd := s.cfg.code k,
                          payload := pl }
        asks := asks } }

/-- The state after an operation that changed no register: only its outputs are new. -/
def answered (s : State) (v : OutVal) (asks : List Ask) : State :=
  { s with out := { status := .ok, val := v, asks := asks } }

/-- The state after `raise FAULT(code)`: only `fault` is written, and `status` is the only output (60_exceptions.md R257). -/
def faulted (s : State) (code : FaultCode) (asks : List Ask) : State :=
  { s with fault := code, out := { status := .fault code, val := .nothing, asks := asks } }

/-- The state after BUILD_REQUEST has built the payload `pl`: the request, or FRAME_OVERFLOW where the frame would be longer
than FRAME_MAX (42_dispatch.md R180). -/
def requestedIfFits (s : State) (k : Command) (re : Bool) (pl : Bytes) (asks : List Ask) : State :=
  if 8 + pl.length ≤ s.cfg.frameMax then requested s k re pl asks else faulted s .frameOverflow asks

/-- The payload of the response to `q`, by the command of `q`, with the ask made for it (42_dispatch.md R182). -/
def responseData (cfg : Config) (answers : HostAnswers) (q : Packet) : Bytes × List Ask :=
  let store : Byte := (1 <<< cfg.etBit.val) ||| (1 <<< cfg.storeBit.val)
  if q.cmd = cfg.code .ping then (cfg.pongText, [])
  else if q.cmd = cfg.code .time then (u32Bytes cfg.endian answers.nowMs, [.nowMs])
  else if q.cmd = cfg.code .config then (store :: answers.configBlob, [.configBlob])
  else if q.cmd = cfg.code .state ∧ (q.payload.getD 0 0).getLsbD cfg.fetchBit.val = true then
    (store :: answers.stateBlob, [.stateBlob])
  else ([], [])

/-- A payload was built, and its frame would be longer than FRAME_MAX (60_exceptions.md R251). -/
abbrev Built.TooLong (b : Built) (cfg : Config) : Prop := ∃ pl, b.payload = .ok pl ∧ cfg.frameMax < 8 + pl.length

/-- The sequence numbers of the requests built in `n` steps from `s`, in order. -/
def requestSeqs : Nat → State → List Byte
  | 0, _ => []
  | n + 1, s =>
    match step s with
    | .next t =>
      match s.pending, t.out.val with
      | _ :: _, .request p => p.seq :: requestSeqs n t
      | _, _ => requestSeqs n t
    | .fault _ => []
    | .refused _ => []

/-- Two states that agree but for what no rule reads: bytes of `rx_buf` at `rc` and above, bytes of `tx_buf` at `tx_len` and
above, and `rx_pkt` while no packet is held (10_state.md R37, R39, R47). -/
structure SameObservable (s t : State) : Prop where
  rest : t = { s with rxBuf := t.rxBuf, txBuf := t.txBuf, rxPkt := t.rxPkt }
  rx : ∀ a, a < s.rc.toNat → Memory.read t.rxBuf a = Memory.read s.rxBuf a
  tx : ∀ a, a < s.txLen.toNat → Memory.read t.txBuf a = Memory.read s.txBuf a
  pkt : s.rxValid = true → t.rxPkt = s.rxPkt

/-- Two outcomes of one kind, the same reason where they stop, and states related by `rel` where they go on. -/
def SameOutcome (rel : State → State → Prop) (x y : Result) : Prop :=
  match x, y with
  | .next s, .next t => rel s t
  | .fault a, .fault b => a = b
  | .refused a, .refused b => a = b
  | _, _ => False

/-- Two decoders that behave alike from now on: the same outputs, fault, position, decoder state, event and held packet, and
the same bytes held for the attempt. -/
structure SameDecoder (s t : State) : Prop where
  out : t.out = s.out
  fault : t.fault = s.fault
  rc : t.rc = s.rc
  dstate : t.dstate = s.dstate
  event : t.lastRxEvent = s.lastRxEvent
  valid : t.rxValid = s.rxValid
  pkt : s.rxValid = true → t.rxPkt = s.rxPkt
  held : t.held = s.held

/-- Pushing `f` gives PROGRESS without a packet for every byte but the last, and FRAME_OK with `p` at the last one; the
packet is then held. -/
def DecodesTo (f : Bytes) (p : Packet) (s : State) : Prop :=
  (∀ k, k + 1 < f.length →
      ∃ u, pushBytes (f.take (k + 1)) s = .next u ∧ u.out = { status := .ok, val := .push none .progress, asks := [] })
    ∧ ∃ u, pushBytes f s = .next u ∧ u.out = { status := .ok, val := .push (some p) .frameOk, asks := [] }
      ∧ u.rxValid = true ∧ u.rxPkt = p ∧ u.rc = 0 ∧ u.dstate = .frameComplete ∧ u.fault = .noFault

/-- Pushing `bs` ends with a rejection: the last byte gives the event `e` and no packet (41_decoder.md R160). -/
def RejectsWith (bs : Bytes) (e : RxEvent) (s : State) : Prop :=
  ∃ u, pushBytes bs s = .next u ∧ u.out = { status := .ok, val := .push none e, asks := [] }

/-- Pushing `g` and then `f` yields exactly the packet `p`: no packet before the last byte, and FRAME_OK with `p` there
(41_decoder.md R168). -/
def YieldsExactly (g f : Bytes) (p : Packet) (s : State) : Prop :=
  (∀ k, k + 1 < (g ++ f).length →
      ∃ v e, pushBytes ((g ++ f).take (k + 1)) s = .next v ∧ v.out = { status := .ok, val := .push none e, asks := [] })
    ∧ ∃ u, pushBytes (g ++ f) s = .next u ∧ u.out = { status := .ok, val := .push (some p) .frameOk, asks := [] }

/-- `f` is the frame that ENCODE of `p` and TX_FRAME give on a block with the parameters `cfg`. -/
def FrameOf (cfg : Config) (p : Packet) (f : Bytes) : Prop :=
  ∃ e e1 e2 : State, e.cfg = cfg ∧ exec .encode (e.offer p) = .next e1 ∧ e1.out.status = .ok
    ∧ exec .txFrame e1 = .next e2 ∧ e2.out = { status := .ok, val := .frame f, asks := [] }

/-- The instructions of the Command Dispatch Engine: its three port operations and the fifteen commands (42_dispatch.md). -/
def dispatchInstr : Instr → Bool
  | .buildRequest _ _ | .buildResponse | .onReceive
  | .cmdPing | .cmdAuth | .cmdInfo | .cmdConfig | .cmdState | .cmdStatus | .cmdLog | .cmdTime | .cmdScheduleWakeup
  | .cmdNodeSleep | .cmdNodeAwake | .cmdOta | .cmdVmcuOta | .cmdSetNodeProperties | .cmdDebugBlink => true
  | .reset | .encode | .checksum | .pushByte _ | .txFrame | .readStatus => false

/-- The state after an operation in the faulted state: only `status` is driven (60_exceptions.md R258). -/
def reported (s : State) : State := { s with out := { status := .fault s.fault, val := .nothing, asks := [] } }

end Sys2Proof.Machine
end

