-- ==== Sys2Proof/Laws/Memory.lean ====
section
/-!
SUPPORT. The laws of the frame buffers: a read after a write, what a write leaves alone, the canonical form and the bounds,
which every memory operation keeps, and reads of ranges.
-/

namespace Sys2Proof.Machine

@[simp] theorem Memory.read_nil (a : Nat) : Memory.read [] a = 0 := rfl

@[simp] theorem Memory.zero_wf : Memory.wf Memory.zero := ⟨List.Pairwise.nil, by simp [Memory.zero]⟩

@[simp] theorem Memory.nil_wf : Memory.wf [] := ⟨List.Pairwise.nil, by simp⟩

@[simp] theorem Memory.nil_within (n : Nat) : Memory.within [] n := by simp [Memory.within]

@[simp] theorem Memory.read_zero (a : Nat) : Memory.read Memory.zero a = 0 := rfl

theorem Memory.read_erase (m : Memory) (a x : Nat) :
    Memory.read (Memory.erase m a) x = if x = a then 0 else Memory.read m x := by
  induction m with
  | nil => simp [Memory.erase]
  | cons c cs ih =>
    unfold Memory.erase at ih ⊢
    by_cases h : c.1 = a
    · subst h
      by_cases hx : x = c.1
      · subst hx; simpa [Memory.read] using ih
      · have h' : ¬ c.1 = x := fun e => hx e.symm
        simpa [Memory.read, hx, h'] using ih
    · by_cases hx : x = a
      · subst hx; simpa [Memory.read, h] using ih
      · by_cases hc : c.1 = x
        · subst hc; simp [Memory.read, h]
        · simpa [Memory.read, h, hx, hc] using ih

theorem Memory.read_of_not_mem (m : Memory) (a : Nat) (h : ∀ c ∈ m, c.1 ≠ a) : Memory.read m a = 0 := by
  induction m with
  | nil => rfl
  | cons c cs ih =>
    have hc : c.1 ≠ a := h c (by simp)
    simp only [Memory.read, hc, if_false]
    exact ih fun d hd => h d (by simp [hd])

theorem Memory.read_insert (m : Memory) (c : Host.Cell) (h : ∀ d ∈ m, d.1 ≠ c.1) (x : Nat) :
    Memory.read (Memory.insert c m) x = if x = c.1 then c.2 else Memory.read m x := by
  induction m with
  | nil => by_cases hx : x = c.1 <;> simp [Memory.insert, Memory.read, hx, eq_comm]
  | cons d ds ih =>
    have hd : d.1 ≠ c.1 := h d (by simp)
    have ih' := ih fun e he => h e (by simp [he])
    unfold Memory.insert
    split
    · by_cases hx : x = c.1
      · subst hx; simp [Memory.read]
      · have : ¬ c.1 = x := fun e => hx e.symm
        simp [Memory.read, hx, this]
    · by_cases hx : x = c.1
      · subst hx; simp [Memory.read, hd, ih']
      · simp [Memory.read, hx, ih']

theorem Memory.erase_ne (m : Memory) (a : Nat) : ∀ c ∈ Memory.erase m a, c.1 ≠ a := by
  intro c hc
  simpa [Memory.erase] using (List.mem_filter.mp hc).2

/-- A read after a write: the byte written at its index, every other byte as before. -/
theorem Memory.read_write (m : Memory) (a : Nat) (b : Byte) (x : Nat) :
    Memory.read (Memory.write m a b) x = if x = a then b else Memory.read m x := by
  unfold Memory.write
  split
  · next hb => rw [Memory.read_erase, hb]
  · rw [Memory.read_insert _ _ (Memory.erase_ne m a), Memory.read_erase]
    by_cases hx : x = a <;> simp [hx]

@[simp] theorem Memory.read_write_same (m : Memory) (a : Nat) (b : Byte) : Memory.read (Memory.write m a b) a = b := by
  simp [Memory.read_write]

theorem Memory.read_write_other (m : Memory) (a : Nat) (b : Byte) (x : Nat) (h : x ≠ a) :
    Memory.read (Memory.write m a b) x = Memory.read m x := by
  simp [Memory.read_write, h]

theorem Memory.mem_insert (m : Memory) (c d : Host.Cell) : d ∈ Memory.insert c m ↔ d = c ∨ d ∈ m := by
  induction m with
  | nil => simp [Memory.insert]
  | cons e es ih =>
    unfold Memory.insert
    split
    · simp
    · simp only [List.mem_cons, ih]; tauto

theorem Memory.erase_wf (m : Memory) (a : Nat) (h : Memory.wf m) : Memory.wf (Memory.erase m a) :=
  ⟨h.1.filter _, fun c hc => h.2 c (List.mem_filter.mp hc).1⟩

theorem Memory.insert_rising (m : Memory) (c : Host.Cell) (h : m.Pairwise fun x y => x.1 < y.1)
    (hc : ∀ d ∈ m, d.1 ≠ c.1) : (Memory.insert c m).Pairwise fun x y => x.1 < y.1 := by
  induction m with
  | nil => simp [Memory.insert]
  | cons d ds ih =>
    have hd := List.pairwise_cons.mp h
    have hne : d.1 ≠ c.1 := hc d (by simp)
    unfold Memory.insert
    split
    · next hlt =>
      refine List.pairwise_cons.mpr ⟨fun e he => ?_, h⟩
      rcases List.mem_cons.mp he with rfl | he
      · exact hlt
      · exact lt_trans hlt (hd.1 e he)
    · next hge =>
      refine List.pairwise_cons.mpr ⟨fun e he => ?_, ih hd.2 fun e he => hc e (by simp [he])⟩
      rcases (Memory.mem_insert ds c e).mp he with rfl | he
      · omega
      · exact hd.1 e he

/-- A write keeps the canonical form. -/
theorem Memory.write_wf (m : Memory) (a : Nat) (b : Byte) (h : Memory.wf m) : Memory.wf (Memory.write m a b) := by
  unfold Memory.write
  split
  · exact Memory.erase_wf m a h
  · next hb =>
    have he := Memory.erase_wf m a h
    refine ⟨Memory.insert_rising _ _ he.1 (Memory.erase_ne m a), fun c hc => ?_⟩
    rcases (Memory.mem_insert _ _ _).mp hc with rfl | hc
    · exact hb
    · exact he.2 c hc

/-- A write inside the buffer keeps the bounds. -/
theorem Memory.write_within (m : Memory) (a : Nat) (b : Byte) (n : Nat) (h : Memory.within m n) (ha : a < n) :
    Memory.within (Memory.write m a b) n := by
  have herase : ∀ c ∈ Memory.erase m a, c.1 < n := fun c hc => h c (List.mem_filter.mp hc).1
  intro c hc
  unfold Memory.write at hc
  split at hc
  · exact herase c hc
  · rcases (Memory.mem_insert _ _ _).mp hc with rfl | hc
    · exact ha
    · exact herase c hc

/-- Writing a byte string keeps the canonical form. -/
theorem Memory.writeBytes_wf (bs : Bytes) (m : Memory) (a : Nat) (h : Memory.wf m) :
    Memory.wf (Memory.writeBytes m a bs) := by
  induction bs generalizing m a with
  | nil => exact h
  | cons b bs ih => exact ih _ _ (Memory.write_wf m a b h)

/-- Writing a byte string inside the buffer keeps the bounds. -/
theorem Memory.writeBytes_within (bs : Bytes) (m : Memory) (a n : Nat) (h : Memory.within m n) (ha : a + bs.length ≤ n) :
    Memory.within (Memory.writeBytes m a bs) n := by
  induction bs generalizing m a with
  | nil => exact h
  | cons b bs ih =>
    simp only [List.length_cons] at ha
    exact ih _ _ (Memory.write_within m a b n h (by omega)) (by omega)

/-- What a byte string's write leaves alone: every index outside its range. -/
theorem Memory.read_writeBytes_other (bs : Bytes) (m : Memory) (a x : Nat) (h : x < a ∨ a + bs.length ≤ x) :
    Memory.read (Memory.writeBytes m a bs) x = Memory.read m x := by
  induction bs generalizing m a with
  | nil => rfl
  | cons b bs ih =>
    simp only [List.length_cons] at h
    rw [Memory.writeBytes, ih _ _ (by omega), Memory.read_write_other _ _ _ _ (by omega)]

/-- A read after a byte string's write, inside its range. -/
theorem Memory.read_writeBytes_inside (bs : Bytes) (m : Memory) (a i : Nat) (h : i < bs.length) :
    Memory.read (Memory.writeBytes m a bs) (a + i) = bs[i] := by
  induction bs generalizing m a i with
  | nil => simp at h
  | cons b bs ih =>
    cases i with
    | zero =>
      rw [Memory.writeBytes, Memory.read_writeBytes_other _ _ _ _ (by omega)]
      simp
    | succ i =>
      have := ih (Memory.write m a b) (a + 1) i (by simpa using h)
      simpa [Memory.writeBytes, Nat.add_assoc, Nat.add_comm 1 i] using this

@[simp] theorem Memory.readBytes_length (m : Memory) (a n : Nat) : (Memory.readBytes m a n).length = n := by
  induction n generalizing a with
  | zero => rfl
  | succ n ih => simp [Memory.readBytes, ih]

theorem Memory.getElem_readBytes (m : Memory) (a n i : Nat) (h : i < (Memory.readBytes m a n).length) :
    (Memory.readBytes m a n)[i] = Memory.read m (a + i) := by
  induction n generalizing a i with
  | zero => simp [Memory.readBytes] at h
  | succ n ih =>
    cases i with
    | zero => simp [Memory.readBytes]
    | succ i =>
      have := ih (a + 1) i (by simpa [Memory.readBytes] using h)
      simpa [Memory.readBytes, Nat.add_assoc, Nat.add_comm 1 i] using this

/-- Two memories that agree on a range read the same there. -/
theorem Memory.readBytes_congr (m m' : Memory) (a n : Nat)
    (h : ∀ i, i < n → Memory.read m (a + i) = Memory.read m' (a + i)) :
    Memory.readBytes m a n = Memory.readBytes m' a n := by
  apply List.ext_getElem
  · simp
  · intro i h1 h2
    rw [Memory.getElem_readBytes, Memory.getElem_readBytes]
    exact h i (by simpa using h1)

/-- A range read after its write gives the bytes written. -/
theorem Memory.readBytes_writeBytes (m : Memory) (a : Nat) (bs : Bytes) :
    Memory.readBytes (Memory.writeBytes m a bs) a bs.length = bs := by
  apply List.ext_getElem
  · simp
  · intro i h1 h2
    rw [Memory.getElem_readBytes, Memory.read_writeBytes_inside _ _ _ _ h2]

/-- One more byte of a range. -/
theorem Memory.readBytes_succ (m : Memory) (a n : Nat) :
    Memory.readBytes m a (n + 1) = Memory.readBytes m a n ++ [Memory.read m (a + n)] := by
  induction n generalizing a with
  | zero => simp [Memory.readBytes]
  | succ n ih =>
    rw [Memory.readBytes, ih, Memory.readBytes]
    simp [Nat.add_comm, Nat.add_left_comm]

/-- A range from a later start is the rest of the range. -/
theorem Memory.readBytes_drop (m : Memory) (a n k : Nat) :
    (Memory.readBytes m a n).drop k = Memory.readBytes m (a + k) (n - k) := by
  apply List.ext_getElem
  · simp
  · intro i h1 h2
    rw [List.getElem_drop, Memory.getElem_readBytes, Memory.getElem_readBytes, Nat.add_assoc]

end Sys2Proof.Machine
end

