-- ==== Sys2Proof/Laws/State.lean ====
section
/-!
SUPPORT. What each named update of the state does to each field: one lemma for each field of each update, true by `rfl`,
so that no later proof unfolds an update.
-/

namespace Sys2Proof.Machine

@[simp] theorem State.drive_cfg (s : State) (v : OutVal) (asks : List Ask) : (s.drive v asks).cfg = s.cfg := rfl
@[simp] theorem State.drive_seqCtr (s : State) (v : OutVal) (asks : List Ask) : (s.drive v asks).seqCtr = s.seqCtr := rfl
@[simp] theorem State.drive_configured (s : State) (v : OutVal) (asks : List Ask) : (s.drive v asks).configured = s.configured := rfl
@[simp] theorem State.drive_rc (s : State) (v : OutVal) (asks : List Ask) : (s.drive v asks).rc = s.rc := rfl
@[simp] theorem State.drive_dstate (s : State) (v : OutVal) (asks : List Ask) : (s.drive v asks).dstate = s.dstate := rfl
@[simp] theorem State.drive_rxBuf (s : State) (v : OutVal) (asks : List Ask) : (s.drive v asks).rxBuf = s.rxBuf := rfl
@[simp] theorem State.drive_rxValid (s : State) (v : OutVal) (asks : List Ask) : (s.drive v asks).rxValid = s.rxValid := rfl
@[simp] theorem State.drive_rxPkt (s : State) (v : OutVal) (asks : List Ask) : (s.drive v asks).rxPkt = s.rxPkt := rfl
@[simp] theorem State.drive_lastRxEvent (s : State) (v : OutVal) (asks : List Ask) : (s.drive v asks).lastRxEvent = s.lastRxEvent := rfl
@[simp] theorem State.drive_txBuf (s : State) (v : OutVal) (asks : List Ask) : (s.drive v asks).txBuf = s.txBuf := rfl
@[simp] theorem State.drive_txLen (s : State) (v : OutVal) (asks : List Ask) : (s.drive v asks).txLen = s.txLen := rfl
@[simp] theorem State.drive_txPending (s : State) (v : OutVal) (asks : List Ask) : (s.drive v asks).txPending = s.txPending := rfl
@[simp] theorem State.drive_txLost (s : State) (v : OutVal) (asks : List Ask) : (s.drive v asks).txLost = s.txLost := rfl
@[simp] theorem State.drive_fault (s : State) (v : OutVal) (asks : List Ask) : (s.drive v asks).fault = s.fault := rfl
@[simp] theorem State.drive_pending (s : State) (v : OutVal) (asks : List Ask) : (s.drive v asks).pending = s.pending := rfl
@[simp] theorem State.drive_data (s : State) (v : OutVal) (asks : List Ask) : (s.drive v asks).data = s.data := rfl
@[simp] theorem State.drive_answers (s : State) (v : OutVal) (asks : List Ask) : (s.drive v asks).answers = s.answers := rfl
@[simp] theorem State.drive_out (s : State) (v : OutVal) (asks : List Ask) : (s.drive v asks).out = { status := .ok, val := v, asks := asks } := rfl

@[simp] theorem State.raiseFault_cfg (s : State) (code : FaultCode) (asks : List Ask) : (s.raiseFault code asks).cfg = s.cfg := rfl
@[simp] theorem State.raiseFault_seqCtr (s : State) (code : FaultCode) (asks : List Ask) : (s.raiseFault code asks).seqCtr = s.seqCtr := rfl
@[simp] theorem State.raiseFault_configured (s : State) (code : FaultCode) (asks : List Ask) : (s.raiseFault code asks).configured = s.configured := rfl
@[simp] theorem State.raiseFault_rc (s : State) (code : FaultCode) (asks : List Ask) : (s.raiseFault code asks).rc = s.rc := rfl
@[simp] theorem State.raiseFault_dstate (s : State) (code : FaultCode) (asks : List Ask) : (s.raiseFault code asks).dstate = s.dstate := rfl
@[simp] theorem State.raiseFault_rxBuf (s : State) (code : FaultCode) (asks : List Ask) : (s.raiseFault code asks).rxBuf = s.rxBuf := rfl
@[simp] theorem State.raiseFault_rxValid (s : State) (code : FaultCode) (asks : List Ask) : (s.raiseFault code asks).rxValid = s.rxValid := rfl
@[simp] theorem State.raiseFault_rxPkt (s : State) (code : FaultCode) (asks : List Ask) : (s.raiseFault code asks).rxPkt = s.rxPkt := rfl
@[simp] theorem State.raiseFault_lastRxEvent (s : State) (code : FaultCode) (asks : List Ask) : (s.raiseFault code asks).lastRxEvent = s.lastRxEvent := rfl
@[simp] theorem State.raiseFault_txBuf (s : State) (code : FaultCode) (asks : List Ask) : (s.raiseFault code asks).txBuf = s.txBuf := rfl
@[simp] theorem State.raiseFault_txLen (s : State) (code : FaultCode) (asks : List Ask) : (s.raiseFault code asks).txLen = s.txLen := rfl
@[simp] theorem State.raiseFault_txPending (s : State) (code : FaultCode) (asks : List Ask) : (s.raiseFault code asks).txPending = s.txPending := rfl
@[simp] theorem State.raiseFault_txLost (s : State) (code : FaultCode) (asks : List Ask) : (s.raiseFault code asks).txLost = s.txLost := rfl
@[simp] theorem State.raiseFault_fault (s : State) (code : FaultCode) (asks : List Ask) : (s.raiseFault code asks).fault = code := rfl
@[simp] theorem State.raiseFault_pending (s : State) (code : FaultCode) (asks : List Ask) : (s.raiseFault code asks).pending = s.pending := rfl
@[simp] theorem State.raiseFault_data (s : State) (code : FaultCode) (asks : List Ask) : (s.raiseFault code asks).data = s.data := rfl
@[simp] theorem State.raiseFault_answers (s : State) (code : FaultCode) (asks : List Ask) : (s.raiseFault code asks).answers = s.answers := rfl
@[simp] theorem State.raiseFault_out (s : State) (code : FaultCode) (asks : List Ask) : (s.raiseFault code asks).out = { status := .fault code, val := .nothing, asks := asks } := rfl

@[simp] theorem State.reportFault_cfg (s : State) : (s.reportFault).cfg = s.cfg := rfl
@[simp] theorem State.reportFault_seqCtr (s : State) : (s.reportFault).seqCtr = s.seqCtr := rfl
@[simp] theorem State.reportFault_configured (s : State) : (s.reportFault).configured = s.configured := rfl
@[simp] theorem State.reportFault_rc (s : State) : (s.reportFault).rc = s.rc := rfl
@[simp] theorem State.reportFault_dstate (s : State) : (s.reportFault).dstate = s.dstate := rfl
@[simp] theorem State.reportFault_rxBuf (s : State) : (s.reportFault).rxBuf = s.rxBuf := rfl
@[simp] theorem State.reportFault_rxValid (s : State) : (s.reportFault).rxValid = s.rxValid := rfl
@[simp] theorem State.reportFault_rxPkt (s : State) : (s.reportFault).rxPkt = s.rxPkt := rfl
@[simp] theorem State.reportFault_lastRxEvent (s : State) : (s.reportFault).lastRxEvent = s.lastRxEvent := rfl
@[simp] theorem State.reportFault_txBuf (s : State) : (s.reportFault).txBuf = s.txBuf := rfl
@[simp] theorem State.reportFault_txLen (s : State) : (s.reportFault).txLen = s.txLen := rfl
@[simp] theorem State.reportFault_txPending (s : State) : (s.reportFault).txPending = s.txPending := rfl
@[simp] theorem State.reportFault_txLost (s : State) : (s.reportFault).txLost = s.txLost := rfl
@[simp] theorem State.reportFault_fault (s : State) : (s.reportFault).fault = s.fault := rfl
@[simp] theorem State.reportFault_pending (s : State) : (s.reportFault).pending = s.pending := rfl
@[simp] theorem State.reportFault_data (s : State) : (s.reportFault).data = s.data := rfl
@[simp] theorem State.reportFault_answers (s : State) : (s.reportFault).answers = s.answers := rfl
@[simp] theorem State.reportFault_out (s : State) : (s.reportFault).out = { status := .fault s.fault, val := .nothing, asks := [] } := rfl

@[simp] theorem State.resetRegisters_cfg (s : State) : (s.resetRegisters).cfg = s.cfg := rfl
@[simp] theorem State.resetRegisters_seqCtr (s : State) : (s.resetRegisters).seqCtr = s.cfg.seqReset := rfl
@[simp] theorem State.resetRegisters_configured (s : State) : (s.resetRegisters).configured = false := rfl
@[simp] theorem State.resetRegisters_rc (s : State) : (s.resetRegisters).rc = 0 := rfl
@[simp] theorem State.resetRegisters_dstate (s : State) : (s.resetRegisters).dstate = .awaitingMagic := rfl
@[simp] theorem State.resetRegisters_rxBuf (s : State) : (s.resetRegisters).rxBuf = [] := rfl
@[simp] theorem State.resetRegisters_rxValid (s : State) : (s.resetRegisters).rxValid = false := rfl
@[simp] theorem State.resetRegisters_rxPkt (s : State) : (s.resetRegisters).rxPkt = Packet.empty := rfl
@[simp] theorem State.resetRegisters_lastRxEvent (s : State) : (s.resetRegisters).lastRxEvent = .noEvent := rfl
@[simp] theorem State.resetRegisters_txBuf (s : State) : (s.resetRegisters).txBuf = [] := rfl
@[simp] theorem State.resetRegisters_txLen (s : State) : (s.resetRegisters).txLen = 0 := rfl
@[simp] theorem State.resetRegisters_txPending (s : State) : (s.resetRegisters).txPending = false := rfl
@[simp] theorem State.resetRegisters_txLost (s : State) : (s.resetRegisters).txLost = false := rfl
@[simp] theorem State.resetRegisters_fault (s : State) : (s.resetRegisters).fault = .noFault := rfl
@[simp] theorem State.resetRegisters_pending (s : State) : (s.resetRegisters).pending = s.pending := rfl
@[simp] theorem State.resetRegisters_data (s : State) : (s.resetRegisters).data = s.data := rfl
@[simp] theorem State.resetRegisters_answers (s : State) : (s.resetRegisters).answers = s.answers := rfl
@[simp] theorem State.resetRegisters_out (s : State) : (s.resetRegisters).out = s.out := rfl

@[simp] theorem State.latch_cfg (s : State) (r : PortRequest) (rest : List PortRequest) : (s.latch r rest).cfg = s.cfg := rfl
@[simp] theorem State.latch_seqCtr (s : State) (r : PortRequest) (rest : List PortRequest) : (s.latch r rest).seqCtr = s.seqCtr := rfl
@[simp] theorem State.latch_configured (s : State) (r : PortRequest) (rest : List PortRequest) : (s.latch r rest).configured = s.configured := rfl
@[simp] theorem State.latch_rc (s : State) (r : PortRequest) (rest : List PortRequest) : (s.latch r rest).rc = s.rc := rfl
@[simp] theorem State.latch_dstate (s : State) (r : PortRequest) (rest : List PortRequest) : (s.latch r rest).dstate = s.dstate := rfl
@[simp] theorem State.latch_rxBuf (s : State) (r : PortRequest) (rest : List PortRequest) : (s.latch r rest).rxBuf = s.rxBuf := rfl
@[simp] theorem State.latch_rxValid (s : State) (r : PortRequest) (rest : List PortRequest) : (s.latch r rest).rxValid = s.rxValid := rfl
@[simp] theorem State.latch_rxPkt (s : State) (r : PortRequest) (rest : List PortRequest) : (s.latch r rest).rxPkt = s.rxPkt := rfl
@[simp] theorem State.latch_lastRxEvent (s : State) (r : PortRequest) (rest : List PortRequest) : (s.latch r rest).lastRxEvent = s.lastRxEvent := rfl
@[simp] theorem State.latch_txBuf (s : State) (r : PortRequest) (rest : List PortRequest) : (s.latch r rest).txBuf = s.txBuf := rfl
@[simp] theorem State.latch_txLen (s : State) (r : PortRequest) (rest : List PortRequest) : (s.latch r rest).txLen = s.txLen := rfl
@[simp] theorem State.latch_txPending (s : State) (r : PortRequest) (rest : List PortRequest) : (s.latch r rest).txPending = s.txPending := rfl
@[simp] theorem State.latch_txLost (s : State) (r : PortRequest) (rest : List PortRequest) : (s.latch r rest).txLost = s.txLost := rfl
@[simp] theorem State.latch_fault (s : State) (r : PortRequest) (rest : List PortRequest) : (s.latch r rest).fault = s.fault := rfl
@[simp] theorem State.latch_pending (s : State) (r : PortRequest) (rest : List PortRequest) : (s.latch r rest).pending = rest := rfl
@[simp] theorem State.latch_data (s : State) (r : PortRequest) (rest : List PortRequest) : (s.latch r rest).data = r.data := rfl
@[simp] theorem State.latch_answers (s : State) (r : PortRequest) (rest : List PortRequest) : (s.latch r rest).answers = r.answers := rfl
@[simp] theorem State.latch_out (s : State) (r : PortRequest) (rest : List PortRequest) : (s.latch r rest).out = s.out := rfl

@[simp] theorem State.setConfigured_cfg (s : State) (b : Bool) : (s.setConfigured b).cfg = s.cfg := rfl
@[simp] theorem State.setConfigured_seqCtr (s : State) (b : Bool) : (s.setConfigured b).seqCtr = s.seqCtr := rfl
@[simp] theorem State.setConfigured_configured (s : State) (b : Bool) : (s.setConfigured b).configured = b := rfl
@[simp] theorem State.setConfigured_rc (s : State) (b : Bool) : (s.setConfigured b).rc = s.rc := rfl
@[simp] theorem State.setConfigured_dstate (s : State) (b : Bool) : (s.setConfigured b).dstate = s.dstate := rfl
@[simp] theorem State.setConfigured_rxBuf (s : State) (b : Bool) : (s.setConfigured b).rxBuf = s.rxBuf := rfl
@[simp] theorem State.setConfigured_rxValid (s : State) (b : Bool) : (s.setConfigured b).rxValid = s.rxValid := rfl
@[simp] theorem State.setConfigured_rxPkt (s : State) (b : Bool) : (s.setConfigured b).rxPkt = s.rxPkt := rfl
@[simp] theorem State.setConfigured_lastRxEvent (s : State) (b : Bool) : (s.setConfigured b).lastRxEvent = s.lastRxEvent := rfl
@[simp] theorem State.setConfigured_txBuf (s : State) (b : Bool) : (s.setConfigured b).txBuf = s.txBuf := rfl
@[simp] theorem State.setConfigured_txLen (s : State) (b : Bool) : (s.setConfigured b).txLen = s.txLen := rfl
@[simp] theorem State.setConfigured_txPending (s : State) (b : Bool) : (s.setConfigured b).txPending = s.txPending := rfl
@[simp] theorem State.setConfigured_txLost (s : State) (b : Bool) : (s.setConfigured b).txLost = s.txLost := rfl
@[simp] theorem State.setConfigured_fault (s : State) (b : Bool) : (s.setConfigured b).fault = s.fault := rfl
@[simp] theorem State.setConfigured_pending (s : State) (b : Bool) : (s.setConfigured b).pending = s.pending := rfl
@[simp] theorem State.setConfigured_data (s : State) (b : Bool) : (s.setConfigured b).data = s.data := rfl
@[simp] theorem State.setConfigured_answers (s : State) (b : Bool) : (s.setConfigured b).answers = s.answers := rfl
@[simp] theorem State.setConfigured_out (s : State) (b : Bool) : (s.setConfigured b).out = s.out := rfl

@[simp] theorem State.bumpSeq_cfg (s : State) : (s.bumpSeq).cfg = s.cfg := rfl
@[simp] theorem State.bumpSeq_seqCtr (s : State) : (s.bumpSeq).seqCtr = s.seqCtr + 1 := rfl
@[simp] theorem State.bumpSeq_configured (s : State) : (s.bumpSeq).configured = s.configured := rfl
@[simp] theorem State.bumpSeq_rc (s : State) : (s.bumpSeq).rc = s.rc := rfl
@[simp] theorem State.bumpSeq_dstate (s : State) : (s.bumpSeq).dstate = s.dstate := rfl
@[simp] theorem State.bumpSeq_rxBuf (s : State) : (s.bumpSeq).rxBuf = s.rxBuf := rfl
@[simp] theorem State.bumpSeq_rxValid (s : State) : (s.bumpSeq).rxValid = s.rxValid := rfl
@[simp] theorem State.bumpSeq_rxPkt (s : State) : (s.bumpSeq).rxPkt = s.rxPkt := rfl
@[simp] theorem State.bumpSeq_lastRxEvent (s : State) : (s.bumpSeq).lastRxEvent = s.lastRxEvent := rfl
@[simp] theorem State.bumpSeq_txBuf (s : State) : (s.bumpSeq).txBuf = s.txBuf := rfl
@[simp] theorem State.bumpSeq_txLen (s : State) : (s.bumpSeq).txLen = s.txLen := rfl
@[simp] theorem State.bumpSeq_txPending (s : State) : (s.bumpSeq).txPending = s.txPending := rfl
@[simp] theorem State.bumpSeq_txLost (s : State) : (s.bumpSeq).txLost = s.txLost := rfl
@[simp] theorem State.bumpSeq_fault (s : State) : (s.bumpSeq).fault = s.fault := rfl
@[simp] theorem State.bumpSeq_pending (s : State) : (s.bumpSeq).pending = s.pending := rfl
@[simp] theorem State.bumpSeq_data (s : State) : (s.bumpSeq).data = s.data := rfl
@[simp] theorem State.bumpSeq_answers (s : State) : (s.bumpSeq).answers = s.answers := rfl
@[simp] theorem State.bumpSeq_out (s : State) : (s.bumpSeq).out = s.out := rfl

@[simp] theorem State.loadFrame_cfg (s : State) (p : Packet) : (s.loadFrame p).cfg = s.cfg := rfl
@[simp] theorem State.loadFrame_seqCtr (s : State) (p : Packet) : (s.loadFrame p).seqCtr = s.seqCtr := rfl
@[simp] theorem State.loadFrame_configured (s : State) (p : Packet) : (s.loadFrame p).configured = s.configured := rfl
@[simp] theorem State.loadFrame_rc (s : State) (p : Packet) : (s.loadFrame p).rc = s.rc := rfl
@[simp] theorem State.loadFrame_dstate (s : State) (p : Packet) : (s.loadFrame p).dstate = s.dstate := rfl
@[simp] theorem State.loadFrame_rxBuf (s : State) (p : Packet) : (s.loadFrame p).rxBuf = s.rxBuf := rfl
@[simp] theorem State.loadFrame_rxValid (s : State) (p : Packet) : (s.loadFrame p).rxValid = s.rxValid := rfl
@[simp] theorem State.loadFrame_rxPkt (s : State) (p : Packet) : (s.loadFrame p).rxPkt = s.rxPkt := rfl
@[simp] theorem State.loadFrame_lastRxEvent (s : State) (p : Packet) : (s.loadFrame p).lastRxEvent = s.lastRxEvent := rfl
@[simp] theorem State.loadFrame_txBuf (s : State) (p : Packet) : (s.loadFrame p).txBuf = Memory.writeBytes s.txBuf 0 (frameBytes s.cfg p) := rfl
@[simp] theorem State.loadFrame_txLen (s : State) (p : Packet) : (s.loadFrame p).txLen = BitVec.ofNat 8 (8 + p.payload.length) := rfl
@[simp] theorem State.loadFrame_txPending (s : State) (p : Packet) : (s.loadFrame p).txPending = true := rfl
@[simp] theorem State.loadFrame_txLost (s : State) (p : Packet) : (s.loadFrame p).txLost = (s.txLost || s.txPending) := rfl
@[simp] theorem State.loadFrame_fault (s : State) (p : Packet) : (s.loadFrame p).fault = s.fault := rfl
@[simp] theorem State.loadFrame_pending (s : State) (p : Packet) : (s.loadFrame p).pending = s.pending := rfl
@[simp] theorem State.loadFrame_data (s : State) (p : Packet) : (s.loadFrame p).data = s.data := rfl
@[simp] theorem State.loadFrame_answers (s : State) (p : Packet) : (s.loadFrame p).answers = s.answers := rfl
@[simp] theorem State.loadFrame_out (s : State) (p : Packet) : (s.loadFrame p).out = s.out := rfl

@[simp] theorem State.append_cfg (s : State) (b : Byte) : (s.append b).cfg = s.cfg := rfl
@[simp] theorem State.append_seqCtr (s : State) (b : Byte) : (s.append b).seqCtr = s.seqCtr := rfl
@[simp] theorem State.append_configured (s : State) (b : Byte) : (s.append b).configured = s.configured := rfl
@[simp] theorem State.append_rc (s : State) (b : Byte) : (s.append b).rc = s.rc + 1 := rfl
@[simp] theorem State.append_dstate (s : State) (b : Byte) : (s.append b).dstate = s.dstate := rfl
@[simp] theorem State.append_rxBuf (s : State) (b : Byte) : (s.append b).rxBuf = Memory.write s.rxBuf s.rc.toNat b := rfl
@[simp] theorem State.append_rxValid (s : State) (b : Byte) : (s.append b).rxValid = false := rfl
@[simp] theorem State.append_rxPkt (s : State) (b : Byte) : (s.append b).rxPkt = s.rxPkt := rfl
@[simp] theorem State.append_lastRxEvent (s : State) (b : Byte) : (s.append b).lastRxEvent = s.lastRxEvent := rfl
@[simp] theorem State.append_txBuf (s : State) (b : Byte) : (s.append b).txBuf = s.txBuf := rfl
@[simp] theorem State.append_txLen (s : State) (b : Byte) : (s.append b).txLen = s.txLen := rfl
@[simp] theorem State.append_txPending (s : State) (b : Byte) : (s.append b).txPending = s.txPending := rfl
@[simp] theorem State.append_txLost (s : State) (b : Byte) : (s.append b).txLost = s.txLost := rfl
@[simp] theorem State.append_fault (s : State) (b : Byte) : (s.append b).fault = s.fault := rfl
@[simp] theorem State.append_pending (s : State) (b : Byte) : (s.append b).pending = s.pending := rfl
@[simp] theorem State.append_data (s : State) (b : Byte) : (s.append b).data = s.data := rfl
@[simp] theorem State.append_answers (s : State) (b : Byte) : (s.append b).answers = s.answers := rfl
@[simp] theorem State.append_out (s : State) (b : Byte) : (s.append b).out = s.out := rfl

@[simp] theorem State.progress_cfg (s : State) (d : DState) : (s.progress d).cfg = s.cfg := rfl
@[simp] theorem State.progress_seqCtr (s : State) (d : DState) : (s.progress d).seqCtr = s.seqCtr := rfl
@[simp] theorem State.progress_configured (s : State) (d : DState) : (s.progress d).configured = s.configured := rfl
@[simp] theorem State.progress_rc (s : State) (d : DState) : (s.progress d).rc = s.rc := rfl
@[simp] theorem State.progress_dstate (s : State) (d : DState) : (s.progress d).dstate = d := rfl
@[simp] theorem State.progress_rxBuf (s : State) (d : DState) : (s.progress d).rxBuf = s.rxBuf := rfl
@[simp] theorem State.progress_rxValid (s : State) (d : DState) : (s.progress d).rxValid = s.rxValid := rfl
@[simp] theorem State.progress_rxPkt (s : State) (d : DState) : (s.progress d).rxPkt = s.rxPkt := rfl
@[simp] theorem State.progress_lastRxEvent (s : State) (d : DState) : (s.progress d).lastRxEvent = .progress := rfl
@[simp] theorem State.progress_txBuf (s : State) (d : DState) : (s.progress d).txBuf = s.txBuf := rfl
@[simp] theorem State.progress_txLen (s : State) (d : DState) : (s.progress d).txLen = s.txLen := rfl
@[simp] theorem State.progress_txPending (s : State) (d : DState) : (s.progress d).txPending = s.txPending := rfl
@[simp] theorem State.progress_txLost (s : State) (d : DState) : (s.progress d).txLost = s.txLost := rfl
@[simp] theorem State.progress_fault (s : State) (d : DState) : (s.progress d).fault = s.fault := rfl
@[simp] theorem State.progress_pending (s : State) (d : DState) : (s.progress d).pending = s.pending := rfl
@[simp] theorem State.progress_data (s : State) (d : DState) : (s.progress d).data = s.data := rfl
@[simp] theorem State.progress_answers (s : State) (d : DState) : (s.progress d).answers = s.answers := rfl
@[simp] theorem State.progress_out (s : State) (d : DState) : (s.progress d).out = s.out := rfl

@[simp] theorem State.discard_cfg (s : State) (e : RxEvent) : (s.discard e).cfg = s.cfg := rfl
@[simp] theorem State.discard_seqCtr (s : State) (e : RxEvent) : (s.discard e).seqCtr = s.seqCtr := rfl
@[simp] theorem State.discard_configured (s : State) (e : RxEvent) : (s.discard e).configured = s.configured := rfl
@[simp] theorem State.discard_rc (s : State) (e : RxEvent) : (s.discard e).rc = 0 := rfl
@[simp] theorem State.discard_dstate (s : State) (e : RxEvent) : (s.discard e).dstate = .awaitingMagic := rfl
@[simp] theorem State.discard_rxBuf (s : State) (e : RxEvent) : (s.discard e).rxBuf = [] := rfl
@[simp] theorem State.discard_rxValid (s : State) (e : RxEvent) : (s.discard e).rxValid = s.rxValid := rfl
@[simp] theorem State.discard_rxPkt (s : State) (e : RxEvent) : (s.discard e).rxPkt = s.rxPkt := rfl
@[simp] theorem State.discard_lastRxEvent (s : State) (e : RxEvent) : (s.discard e).lastRxEvent = e := rfl
@[simp] theorem State.discard_txBuf (s : State) (e : RxEvent) : (s.discard e).txBuf = s.txBuf := rfl
@[simp] theorem State.discard_txLen (s : State) (e : RxEvent) : (s.discard e).txLen = s.txLen := rfl
@[simp] theorem State.discard_txPending (s : State) (e : RxEvent) : (s.discard e).txPending = s.txPending := rfl
@[simp] theorem State.discard_txLost (s : State) (e : RxEvent) : (s.discard e).txLost = s.txLost := rfl
@[simp] theorem State.discard_fault (s : State) (e : RxEvent) : (s.discard e).fault = s.fault := rfl
@[simp] theorem State.discard_pending (s : State) (e : RxEvent) : (s.discard e).pending = s.pending := rfl
@[simp] theorem State.discard_data (s : State) (e : RxEvent) : (s.discard e).data = s.data := rfl
@[simp] theorem State.discard_answers (s : State) (e : RxEvent) : (s.discard e).answers = s.answers := rfl
@[simp] theorem State.discard_out (s : State) (e : RxEvent) : (s.discard e).out = s.out := rfl

@[simp] theorem State.keepSecond_cfg (s : State) : (s.keepSecond).cfg = s.cfg := rfl
@[simp] theorem State.keepSecond_seqCtr (s : State) : (s.keepSecond).seqCtr = s.seqCtr := rfl
@[simp] theorem State.keepSecond_configured (s : State) : (s.keepSecond).configured = s.configured := rfl
@[simp] theorem State.keepSecond_rc (s : State) : (s.keepSecond).rc = 1 := rfl
@[simp] theorem State.keepSecond_dstate (s : State) : (s.keepSecond).dstate = .awaitingMagic := rfl
@[simp] theorem State.keepSecond_rxBuf (s : State) : (s.keepSecond).rxBuf = Memory.write [] 0 (Memory.read s.rxBuf 1) := rfl
@[simp] theorem State.keepSecond_rxValid (s : State) : (s.keepSecond).rxValid = s.rxValid := rfl
@[simp] theorem State.keepSecond_rxPkt (s : State) : (s.keepSecond).rxPkt = s.rxPkt := rfl
@[simp] theorem State.keepSecond_lastRxEvent (s : State) : (s.keepSecond).lastRxEvent = .magicErr := rfl
@[simp] theorem State.keepSecond_txBuf (s : State) : (s.keepSecond).txBuf = s.txBuf := rfl
@[simp] theorem State.keepSecond_txLen (s : State) : (s.keepSecond).txLen = s.txLen := rfl
@[simp] theorem State.keepSecond_txPending (s : State) : (s.keepSecond).txPending = s.txPending := rfl
@[simp] theorem State.keepSecond_txLost (s : State) : (s.keepSecond).txLost = s.txLost := rfl
@[simp] theorem State.keepSecond_fault (s : State) : (s.keepSecond).fault = s.fault := rfl
@[simp] theorem State.keepSecond_pending (s : State) : (s.keepSecond).pending = s.pending := rfl
@[simp] theorem State.keepSecond_data (s : State) : (s.keepSecond).data = s.data := rfl
@[simp] theorem State.keepSecond_answers (s : State) : (s.keepSecond).answers = s.answers := rfl
@[simp] theorem State.keepSecond_out (s : State) : (s.keepSecond).out = s.out := rfl

@[simp] theorem State.accept_cfg (s : State) (tl : Nat) : (s.accept tl).cfg = s.cfg := rfl
@[simp] theorem State.accept_seqCtr (s : State) (tl : Nat) : (s.accept tl).seqCtr = s.seqCtr := rfl
@[simp] theorem State.accept_configured (s : State) (tl : Nat) : (s.accept tl).configured = s.configured := rfl
@[simp] theorem State.accept_rc (s : State) (tl : Nat) : (s.accept tl).rc = 0 := rfl
@[simp] theorem State.accept_dstate (s : State) (tl : Nat) : (s.accept tl).dstate = .frameComplete := rfl
@[simp] theorem State.accept_rxBuf (s : State) (tl : Nat) : (s.accept tl).rxBuf = s.rxBuf := rfl
@[simp] theorem State.accept_rxValid (s : State) (tl : Nat) : (s.accept tl).rxValid = true := rfl
@[simp] theorem State.accept_rxPkt (s : State) (tl : Nat) : (s.accept tl).rxPkt = framePacket s.rxBuf tl := rfl
@[simp] theorem State.accept_lastRxEvent (s : State) (tl : Nat) : (s.accept tl).lastRxEvent = .frameOk := rfl
@[simp] theorem State.accept_txBuf (s : State) (tl : Nat) : (s.accept tl).txBuf = s.txBuf := rfl
@[simp] theorem State.accept_txLen (s : State) (tl : Nat) : (s.accept tl).txLen = s.txLen := rfl
@[simp] theorem State.accept_txPending (s : State) (tl : Nat) : (s.accept tl).txPending = s.txPending := rfl
@[simp] theorem State.accept_txLost (s : State) (tl : Nat) : (s.accept tl).txLost = s.txLost := rfl
@[simp] theorem State.accept_fault (s : State) (tl : Nat) : (s.accept tl).fault = s.fault := rfl
@[simp] theorem State.accept_pending (s : State) (tl : Nat) : (s.accept tl).pending = s.pending := rfl
@[simp] theorem State.accept_data (s : State) (tl : Nat) : (s.accept tl).data = s.data := rfl
@[simp] theorem State.accept_answers (s : State) (tl : Nat) : (s.accept tl).answers = s.answers := rfl
@[simp] theorem State.accept_out (s : State) (tl : Nat) : (s.accept tl).out = s.out := rfl

@[simp] theorem State.takeFrame_cfg (s : State) : (s.takeFrame).cfg = s.cfg := rfl
@[simp] theorem State.takeFrame_seqCtr (s : State) : (s.takeFrame).seqCtr = s.seqCtr := rfl
@[simp] theorem State.takeFrame_configured (s : State) : (s.takeFrame).configured = s.configured := rfl
@[simp] theorem State.takeFrame_rc (s : State) : (s.takeFrame).rc = s.rc := rfl
@[simp] theorem State.takeFrame_dstate (s : State) : (s.takeFrame).dstate = s.dstate := rfl
@[simp] theorem State.takeFrame_rxBuf (s : State) : (s.takeFrame).rxBuf = s.rxBuf := rfl
@[simp] theorem State.takeFrame_rxValid (s : State) : (s.takeFrame).rxValid = s.rxValid := rfl
@[simp] theorem State.takeFrame_rxPkt (s : State) : (s.takeFrame).rxPkt = s.rxPkt := rfl
@[simp] theorem State.takeFrame_lastRxEvent (s : State) : (s.takeFrame).lastRxEvent = s.lastRxEvent := rfl
@[simp] theorem State.takeFrame_txBuf (s : State) : (s.takeFrame).txBuf = s.txBuf := rfl
@[simp] theorem State.takeFrame_txLen (s : State) : (s.takeFrame).txLen = s.txLen := rfl
@[simp] theorem State.takeFrame_txPending (s : State) : (s.takeFrame).txPending = false := rfl
@[simp] theorem State.takeFrame_txLost (s : State) : (s.takeFrame).txLost = s.txLost := rfl
@[simp] theorem State.takeFrame_fault (s : State) : (s.takeFrame).fault = s.fault := rfl
@[simp] theorem State.takeFrame_pending (s : State) : (s.takeFrame).pending = s.pending := rfl
@[simp] theorem State.takeFrame_data (s : State) : (s.takeFrame).data = s.data := rfl
@[simp] theorem State.takeFrame_answers (s : State) : (s.takeFrame).answers = s.answers := rfl
@[simp] theorem State.takeFrame_out (s : State) : (s.takeFrame).out = s.out := rfl

@[simp] theorem State.offer_cfg (s : State) (p : Packet) : (s.offer p).cfg = s.cfg := rfl
@[simp] theorem State.offer_seqCtr (s : State) (p : Packet) : (s.offer p).seqCtr = s.seqCtr := rfl
@[simp] theorem State.offer_configured (s : State) (p : Packet) : (s.offer p).configured = s.configured := rfl
@[simp] theorem State.offer_rc (s : State) (p : Packet) : (s.offer p).rc = s.rc := rfl
@[simp] theorem State.offer_dstate (s : State) (p : Packet) : (s.offer p).dstate = s.dstate := rfl
@[simp] theorem State.offer_rxBuf (s : State) (p : Packet) : (s.offer p).rxBuf = s.rxBuf := rfl
@[simp] theorem State.offer_rxValid (s : State) (p : Packet) : (s.offer p).rxValid = s.rxValid := rfl
@[simp] theorem State.offer_rxPkt (s : State) (p : Packet) : (s.offer p).rxPkt = s.rxPkt := rfl
@[simp] theorem State.offer_lastRxEvent (s : State) (p : Packet) : (s.offer p).lastRxEvent = s.lastRxEvent := rfl
@[simp] theorem State.offer_txBuf (s : State) (p : Packet) : (s.offer p).txBuf = s.txBuf := rfl
@[simp] theorem State.offer_txLen (s : State) (p : Packet) : (s.offer p).txLen = s.txLen := rfl
@[simp] theorem State.offer_txPending (s : State) (p : Packet) : (s.offer p).txPending = s.txPending := rfl
@[simp] theorem State.offer_txLost (s : State) (p : Packet) : (s.offer p).txLost = s.txLost := rfl
@[simp] theorem State.offer_fault (s : State) (p : Packet) : (s.offer p).fault = s.fault := rfl
@[simp] theorem State.offer_pending (s : State) (p : Packet) : (s.offer p).pending = s.pending := rfl
@[simp] theorem State.offer_data (s : State) (p : Packet) : (s.offer p).data = { s.data with packet := p } := rfl
@[simp] theorem State.offer_answers (s : State) (p : Packet) : (s.offer p).answers = s.answers := rfl
@[simp] theorem State.offer_out (s : State) (p : Packet) : (s.offer p).out = s.out := rfl

@[simp] theorem State.act_cfg (s : State) (a : CmdAction) : (s.act a).cfg = s.cfg := rfl
@[simp] theorem State.act_seqCtr (s : State) (a : CmdAction) : (s.act a).seqCtr = s.seqCtr := rfl
@[simp] theorem State.act_configured (s : State) (a : CmdAction) : (s.act a).configured = s.configured := rfl
@[simp] theorem State.act_rc (s : State) (a : CmdAction) : (s.act a).rc = s.rc := rfl
@[simp] theorem State.act_dstate (s : State) (a : CmdAction) : (s.act a).dstate = s.dstate := rfl
@[simp] theorem State.act_rxBuf (s : State) (a : CmdAction) : (s.act a).rxBuf = s.rxBuf := rfl
@[simp] theorem State.act_rxValid (s : State) (a : CmdAction) : (s.act a).rxValid = s.rxValid := rfl
@[simp] theorem State.act_rxPkt (s : State) (a : CmdAction) : (s.act a).rxPkt = s.rxPkt := rfl
@[simp] theorem State.act_lastRxEvent (s : State) (a : CmdAction) : (s.act a).lastRxEvent = s.lastRxEvent := rfl
@[simp] theorem State.act_txBuf (s : State) (a : CmdAction) : (s.act a).txBuf = s.txBuf := rfl
@[simp] theorem State.act_txLen (s : State) (a : CmdAction) : (s.act a).txLen = s.txLen := rfl
@[simp] theorem State.act_txPending (s : State) (a : CmdAction) : (s.act a).txPending = s.txPending := rfl
@[simp] theorem State.act_txLost (s : State) (a : CmdAction) : (s.act a).txLost = s.txLost := rfl
@[simp] theorem State.act_fault (s : State) (a : CmdAction) : (s.act a).fault = s.fault := rfl
@[simp] theorem State.act_pending (s : State) (a : CmdAction) : (s.act a).pending = s.pending := rfl
@[simp] theorem State.act_data (s : State) (a : CmdAction) : (s.act a).data = { s.data with action := a } := rfl
@[simp] theorem State.act_answers (s : State) (a : CmdAction) : (s.act a).answers = s.answers := rfl
@[simp] theorem State.act_out (s : State) (a : CmdAction) : (s.act a).out = s.out := rfl

end Sys2Proof.Machine
end

