-- ==== Sys2Proof/Laws/Ops.lean ====
section
/-!
SUPPORT. One lemma for each shared operation that says once everything it can do: the sticky-fault check, the held-packet
check, the ends of the three dispatch operations, a command run as an instruction, the decoder's classification of a byte,
and one step.
-/

namespace Sys2Proof.Machine

theorem unlessFaulted_ok (s : State) (k : State → Result) (h : s.fault = .noFault) : unlessFaulted s k = k s := by
  simp [unlessFaulted, h]

theorem unlessFaulted_faulted (s : State) (k : State → Result) (h : s.fault ≠ .noFault) :
    unlessFaulted s k = .next s.reportFault := by
  simp [unlessFaulted, h]

/-- The sticky-fault check: the fault is reported, or the operation runs. -/
theorem unlessFaulted_cases (s : State) (k : State → Result) :
    (s.fault ≠ .noFault ∧ unlessFaulted s k = .next s.reportFault) ∨ (s.fault = .noFault ∧ unlessFaulted s k = k s) := by
  by_cases h : s.fault = .noFault
  · exact .inr ⟨h, unlessFaulted_ok s k h⟩
  · exact .inl ⟨h, unlessFaulted_faulted s k h⟩

/-- The held-packet check: NO_PACKET, or the operation runs on the held packet. -/
theorem withPacket_cases (s : State) (k : Packet → Result) :
    (s.rxValid = false ∧ withPacket s k = .next (s.raiseFault .noPacket []))
      ∨ (s.rxValid = true ∧ withPacket s k = k s.rxPkt) := by
  by_cases h : s.rxValid = true
  · exact .inr ⟨h, by simp [withPacket, h]⟩
  · exact .inl ⟨by simpa using h, by simp [withPacket, h]⟩

/-- The end of BUILD_REQUEST: a fault, or the packet with the next sequence number. -/
theorem finishRequest_cases (c : Byte) (re : Bool) (b : Built) (s : State) :
    (∃ code, b.payload = .error code ∧ finishRequest c re b s = s.raiseFault code b.asks)
      ∨ (∃ pl, b.payload = .ok pl ∧ s.cfg.frameMax < 8 + pl.length
          ∧ finishRequest c re b s = s.raiseFault .frameOverflow b.asks)
      ∨ ∃ pl, b.payload = .ok pl ∧ 8 + pl.length ≤ s.cfg.frameMax
          ∧ finishRequest c re b s = s.bumpSeq.drive (.request (requestPacket s c re pl)) b.asks := by
  unfold finishRequest overflows
  rcases b.payload with code | pl
  · exact .inl ⟨code, rfl, rfl⟩
  · by_cases h : s.cfg.frameMax < 8 + pl.length
    · exact .inr (.inl ⟨pl, rfl, h, by simp [h]⟩)
    · exact .inr (.inr ⟨pl, rfl, by omega, by simp [h]⟩)

/-- BUILD_RESPONSE for a held packet: none, a fault, or the response; no register but `fault` is written. -/
theorem finishResponse_cases (q : Packet) (b : Built) (s : State) :
    (wantsResponse s.cfg q.flags = false ∧ finishResponse q b s = s.drive (.response none) [])
      ∨ (∃ code, b.payload = .error code ∧ wantsResponse s.cfg q.flags = true
          ∧ finishResponse q b s = s.raiseFault code b.asks)
      ∨ (∃ pl, b.payload = .ok pl ∧ wantsResponse s.cfg q.flags = true ∧ s.cfg.frameMax < 8 + pl.length
          ∧ finishResponse q b s = s.raiseFault .frameOverflow b.asks)
      ∨ ∃ pl, b.payload = .ok pl ∧ wantsResponse s.cfg q.flags = true ∧ 8 + pl.length ≤ s.cfg.frameMax
          ∧ finishResponse q b s = s.drive (.response (some (responsePacket s.cfg q pl))) b.asks := by
  unfold finishResponse overflows
  by_cases hw : wantsResponse s.cfg q.flags = true
  · rcases b.payload with code | pl
    · exact .inr (.inl ⟨code, rfl, hw, by simp [hw]⟩)
    · by_cases h : s.cfg.frameMax < 8 + pl.length
      · exact .inr (.inr (.inl ⟨pl, rfl, hw, h, by simp [hw, h]⟩))
      · exact .inr (.inr (.inr ⟨pl, rfl, hw, by omega, by simp [hw, h]⟩))
  · exact .inl ⟨by simpa using hw, by simp [hw]⟩

/-- A command run as an instruction: the sticky fault, NO_PACKET, or the end of the action the data channel names. -/
theorem runCommand_cases (code : Byte) (req : State → Built) (resp : Packet → State → Built)
    (recv : Packet → State → Routed) (s : State) :
    (s.fault ≠ .noFault ∧ runCommand code req resp recv s = .next s.reportFault)
      ∨ (s.fault = .noFault ∧ s.rxValid = false ∧ runCommand code req resp recv s = .next (s.raiseFault .noPacket []))
      ∨ (∃ re, s.fault = .noFault ∧ s.data.action = .request re
          ∧ runCommand code req resp recv s = .next (finishRequest code re (req s) s))
      ∨ (s.fault = .noFault ∧ s.data.action = .response ∧ s.rxValid = true
          ∧ runCommand code req resp recv s = .next (finishResponse { s.rxPkt with cmd := code } (resp s.rxPkt s) s))
      ∨ (s.fault = .noFault ∧ s.data.action = .receive ∧ s.rxValid = true
          ∧ runCommand code req resp recv s = .next (finishReceive (recv s.rxPkt s) s)) := by
  unfold runCommand
  rcases unlessFaulted_cases s _ with ⟨hf, e⟩ | ⟨hf, e⟩ <;> rw [e]
  · exact .inl ⟨hf, rfl⟩
  · rcases ha : s.data.action with re | _ | _
    · exact .inr (.inr (.inl ⟨re, hf, rfl, rfl⟩))
    · rcases withPacket_cases s (fun q => .next (finishResponse { q with cmd := code } (resp q s) s)) with
        ⟨hv, e⟩ | ⟨hv, e⟩
      · exact .inr (.inl ⟨hf, hv, e⟩)
      · exact .inr (.inr (.inr (.inl ⟨hf, rfl, hv, e⟩)))
    · rcases withPacket_cases s (fun q => .next (finishReceive (recv q s) s)) with ⟨hv, e⟩ | ⟨hv, e⟩
      · exact .inr (.inl ⟨hf, hv, e⟩)
      · exact .inr (.inr (.inr (.inr ⟨hf, rfl, hv, e⟩)))

/-- A command as an instruction is its own row of the three tables: request payload, response payload, receive action. -/
theorem exec_command (k : Command) (s : State) :
    exec k.instr s
      = runCommand (s.cfg.code k) (requestPayload k) (responsePayload (some k)) (receiveAction (some k)) s := by
  cases k <;> rfl

/-- Building a request's payload fails only for a STATE store whose answer breaks `export_state`'s contract. -/
theorem requestPayload_error (k : Command) (s : State) (code : FaultCode) (h : (requestPayload k s).payload = .error code) :
    k = .state ∧ code = .callbackContract ∧ s.data.store = true ∧ exportKeepsContract s = false := by
  cases k
  case state =>
    simp only [requestPayload, stateRequest] at h
    split at h
    · next hs =>
      simp only at h
      split at h
      · cases h
      · next hk => cases h; exact ⟨rfl, rfl, hs, (Bool.not_eq_true _).mp hk⟩
    · cases h
  case config => simp only [requestPayload, configRequest] at h; split at h <;> cases h
  all_goals cases h

/-- Building a response's payload never fails. -/
theorem responsePayload_ok (k : Option Command) (q : Packet) (s : State) :
    ∃ pl, (responsePayload k q s).payload = .ok pl := by
  rcases k with _ | k
  · exact ⟨_, rfl⟩
  · cases k <;> first
      | exact ⟨_, rfl⟩
      | (simp only [responsePayload, stateResponse]; split <;> exact ⟨_, rfl⟩)

/-- What the decoder does after the append: progress to the state of its position, a kept second byte, a discard with one of
the three errors, or the acceptance of a complete frame. -/
theorem classify_cases (s : State) :
    (s.rc.toNat < 2 ∧ s.classify = s.progress .awaitingMagic)
      ∨ (s.rc.toNat = 2 ∧ magicOk s.cfg (Memory.read s.rxBuf 0) (Memory.read s.rxBuf 1) = true
          ∧ s.classify = s.progress .awaitingLength)
      ∨ (s.rc.toNat = 2 ∧ magicOk s.cfg (Memory.read s.rxBuf 0) (Memory.read s.rxBuf 1) = false
          ∧ s.cfg.resync = .slide ∧ Memory.read s.rxBuf 1 = s.cfg.magicA ∧ s.classify = s.keepSecond)
      ∨ (s.rc.toNat = 2 ∧ magicOk s.cfg (Memory.read s.rxBuf 0) (Memory.read s.rxBuf 1) = false
          ∧ ¬(s.cfg.resync = .slide ∧ Memory.read s.rxBuf 1 = s.cfg.magicA) ∧ s.classify = s.discard .magicErr)
      ∨ (s.rc.toNat = 3 ∧ s.cfg.earlyLengthCheck = true ∧ lengthOutOfRange s.cfg (Memory.read s.rxBuf 2) = true
          ∧ s.classify = s.discard .lengthErr)
      ∨ (s.rc.toNat = 3
          ∧ ¬(s.cfg.earlyLengthCheck = true ∧ lengthOutOfRange s.cfg (Memory.read s.rxBuf 2) = true)
          ∧ s.classify = s.progress .accumulatingPayload)
      ∨ (4 ≤ s.rc.toNat ∧ (s.rc.toNat = 4 ∨ s.rc ≠ Memory.read s.rxBuf 2)
          ∧ s.classify = s.progress .accumulatingPayload)
      ∨ (5 ≤ s.rc.toNat ∧ s.rc = Memory.read s.rxBuf 2
          ∧ (s.rc.toNat < 8 ∨ s.rc.toNat ≠ 8 + (Memory.read s.rxBuf 5).toNat) ∧ s.classify = s.discard .lengthErr)
      ∨ (8 ≤ s.rc.toNat ∧ s.rc = Memory.read s.rxBuf 2 ∧ s.rc.toNat = 8 + (Memory.read s.rxBuf 5).toNat
          ∧ chk s.cfg (Memory.readBytes s.rxBuf 4 (s.rc.toNat - 4)) ≠ Memory.read s.rxBuf 3
          ∧ s.classify = s.discard .checksumErr)
      ∨ (8 ≤ s.rc.toNat ∧ s.rc = Memory.read s.rxBuf 2 ∧ s.rc.toNat = 8 + (Memory.read s.rxBuf 5).toNat
          ∧ chk s.cfg (Memory.readBytes s.rxBuf 4 (s.rc.toNat - 4)) = Memory.read s.rxBuf 3
          ∧ s.classify = s.accept s.rc.toNat) := by
  by_cases h2 : s.rc.toNat < 2
  · exact .inl ⟨h2, by simp [State.classify, h2]⟩
  refine .inr ?_
  by_cases e2 : s.rc.toNat = 2
  · by_cases hm : magicOk s.cfg (Memory.read s.rxBuf 0) (Memory.read s.rxBuf 1) = true
    · exact .inl ⟨e2, hm, by unfold State.classify; rw [if_neg h2, if_pos e2, if_pos hm]⟩
    · have hm' := (Bool.not_eq_true _).mp hm
      by_cases hs : s.cfg.resync = .slide ∧ Memory.read s.rxBuf 1 = s.cfg.magicA
      · exact .inr (.inl ⟨e2, hm', hs.1, hs.2, by unfold State.classify; rw [if_neg h2, if_pos e2, if_neg hm, if_pos hs]⟩)
      · exact .inr (.inr (.inl ⟨e2, hm', hs, by unfold State.classify; rw [if_neg h2, if_pos e2, if_neg hm, if_neg hs]⟩))
  refine .inr (.inr (.inr ?_))
  by_cases e3 : s.rc.toNat = 3
  · by_cases hl : s.cfg.earlyLengthCheck = true ∧ lengthOutOfRange s.cfg (Memory.read s.rxBuf 2) = true
    · exact .inl ⟨e3, hl.1, hl.2, by unfold State.classify; rw [if_neg h2, if_neg e2, if_pos e3, if_pos hl]⟩
    · exact .inr (.inl ⟨e3, hl, by unfold State.classify; rw [if_neg h2, if_neg e2, if_pos e3, if_neg hl]⟩)
  refine .inr (.inr ?_)
  by_cases h4 : s.rc.toNat = 4 ∨ s.rc ≠ Memory.read s.rxBuf 2
  · exact .inl ⟨by omega, h4, by unfold State.classify; rw [if_neg h2, if_neg e2, if_neg e3, if_pos h4]⟩
  refine .inr ?_
  have hc : s.classify = s.complete := by unfold State.classify; rw [if_neg h2, if_neg e2, if_neg e3, if_neg h4]
  have hr : s.rc = Memory.read s.rxBuf 2 := by
    by_contra hne; exact h4 (.inr hne)
  have h5 : 5 ≤ s.rc.toNat := by
    have : s.rc.toNat ≠ 4 := fun e => h4 (.inl e)
    omega
  rw [hc]
  by_cases hl : s.rc.toNat < 8 ∨ s.rc.toNat ≠ 8 + (Memory.read s.rxBuf 5).toNat
  · exact .inl ⟨h5, hr, hl, by unfold State.complete; simp only [hl, if_true]⟩
  have hl1 : 8 ≤ s.rc.toNat := by omega
  have hl2 : s.rc.toNat = 8 + (Memory.read s.rxBuf 5).toNat := by omega
  by_cases hk : chk s.cfg (Memory.readBytes s.rxBuf 4 (s.rc.toNat - 4)) = Memory.read s.rxBuf 3
  · refine .inr (.inr ⟨hl1, hr, hl2, hk, ?_⟩)
    unfold State.complete; simp only [hl, if_false]; simp [hk]
  · refine .inr (.inl ⟨hl1, hr, hl2, hk, ?_⟩)
    unfold State.complete; simp only [hl, if_false]; simp [hk]

/-- PUSH_BYTE: the sticky fault, the overrun, an index outside the buffer, or the classification of the appended byte. -/
theorem execPushByte_cases (b : Byte) (s : State) :
    (s.fault ≠ .noFault ∧ execPushByte b s = .next s.reportFault)
      ∨ (s.fault = .noFault ∧ s.rc.toNat = s.cfg.frameMax
          ∧ execPushByte b s = .next (s.raiseFault .decodeOverrun []))
      ∨ (s.fault = .noFault ∧ s.cfg.frameMax < s.rc.toNat
          ∧ execPushByte b s = .fault (.badAddress .rx s.rc.toNat))
      ∨ (s.fault = .noFault ∧ s.rc.toNat < s.cfg.frameMax
          ∧ execPushByte b s = .next (s.append b).classify.drivePush) := by
  unfold execPushByte
  rcases unlessFaulted_cases s _ with ⟨hf, e⟩ | ⟨hf, e⟩ <;> rw [e]
  · exact .inl ⟨hf, rfl⟩
  · rcases lt_trichotomy s.rc.toNat s.cfg.frameMax with h | h | h
    · refine .inr (.inr (.inr ⟨hf, h, ?_⟩)); simp [Nat.ne_of_lt h, Nat.not_lt.mpr (Nat.le_of_lt h)]
    · exact .inr (.inl ⟨hf, h, by simp [h]⟩)
    · refine .inr (.inr (.inl ⟨hf, h, ?_⟩)); simp [Nat.ne_of_gt h, h]

/-- One step: nothing is issued, the decoded instruction runs, or the decoder rejects the selection. -/
theorem step_cases (s : State) :
    (s.pending = [] ∧ step s = .next s)
      ∨ (∃ r rest i, s.pending = r :: rest ∧ decode s.cfg r.code = .ok i ∧ step s = exec i (s.latch r rest))
      ∨ ∃ r rest e, s.pending = r :: rest ∧ decode s.cfg r.code = .error e
          ∧ step s = runUndecoded r.code (s.latch r rest) := by
  unfold step
  rcases hp : s.pending with _ | ⟨r, rest⟩
  · exact .inl ⟨rfl, rfl⟩
  · rcases hd : decode s.cfg r.code with e | i
    · exact .inr (.inr ⟨r, rest, e, rfl, hd, by simp [hd]⟩)
    · exact .inr (.inl ⟨r, rest, i, rfl, hd, by simp [hd]⟩)

end Sys2Proof.Machine
end

