-- ==== Sys2Proof/Certificates/Slice0/Obligations.lean ====
section
/-!
DEFINITION. The statements for the provers: what the numbered rules of spec/ say about the machine of Sys2Proof/Machine.
Each docstring names the rule, or the model's own choice and its log entry.
-/

open Sys2Proof Sys2Proof.Machine

/-! ### One step, decoding and encoding -/

/-- R7, R8, R111: the next operation of the host is put on the port and its instruction is performed; with none issued
nothing moves. The host's list of operations is the model's own (log entry 4). -/
def Obligations.StepPerformsIssuedInstruction : Prop :=
  (∀ (s : State) (r : PortRequest) (rest : List PortRequest) (i : Instr),
      s.pending = r :: rest → decode s.cfg r.code = .ok i →
      step s = exec i { s with pending := rest, data := r.data, answers := r.answers })
    ∧ ∀ s : State, s.pending = [] → step s = .next s

/-- R111: the decoder rejects exactly the port command words the rule calls illegal. -/
def Obligations.PortWordRejectedExactlyWhenIllegal : Prop :=
  ∀ w : Word32, (∃ e, decodePort w = .error e) ↔ IllegalWord w

/-- R256: an illegal port command word raises ILLEGAL_OP after the sticky-fault check and before anything else, and so does
BUILD_REQUEST of a command code outside the image of CMD_CODE. -/
def Obligations.IllegalOpRaised : Prop :=
  (∀ (s : State) (r : PortRequest) (rest : List PortRequest) (w : Word32),
      s.pending = r :: rest → r.code = .port w → IllegalWord w →
      let t := { s with pending := rest, data := r.data, answers := r.answers }
      (s.fault = .noFault → step s = .next (faulted t .illegalOp [])) ∧ (s.fault ≠ .noFault → step s = .next (reported t)))
    ∧ ∀ (s : State) (c : Byte) (re : Bool), s.fault = .noFault → (∀ k, s.cfg.code k ≠ c) →
        exec (.buildRequest c re) s = .next (faulted s .illegalOp [])

/-- R90, R111: under legal parameters every instruction is what its own encoding decodes to. -/
def Obligations.DecodeOfEncode : Prop :=
  ∀ cfg : Config, cfg.wf = true → ∀ i : Instr, decode cfg (encode cfg i) = .ok i

/-- R90, R111: a selection that decodes is the encoding of what it decodes to, so no bit of a legal word is ignored. -/
def Obligations.EncodeOfDecode : Prop :=
  ∀ (cfg : Config) (c : Code) (i : Instr), decode cfg c = .ok i → encode cfg i = c

/-- R111, R90: words and bytes of the opcode table decode to their rows (with the default CMD_CODE). -/
def Obligations.TableWordsDecode : Prop :=
  decodePort 0x00000000 = .ok .reset ∧ decodePort 0x0000E103 = .ok (.pushByte 0xE1)
    ∧ decodePort 0x00010104 = .ok (.buildRequest 0x01 true) ∧ decodePort 0x00000008 = .ok .readStatus
    ∧ decodePort 0x00020104 = .error .reservedBit ∧ decodePort 0x00000101 = .error .unusedImm8
    ∧ decode Config.default (.command 0x05) = .ok .cmdState
    ∧ decode Config.default (.command 0x10) = .error .uncatalogued

/-! ### The invariant and the runs -/

/-- R43, R280, R281: the invariant holds where a run starts, whatever the host will issue. -/
def Obligations.InvariantHoldsAtReset : Prop :=
  State.reset.Inv ∧ ∀ (cfg : Config) (ops : List PortRequest), cfg.wf = true →
    { State.initial cfg with pending := ops }.Inv

/-- R43, R60, R70, R82: every step keeps the invariant: the relation between `dstate` and `rc`, the canonical form and the
bounds of both buffers, a whole frame in `tx_buf`, a held packet exactly in FrameComplete. -/
def Obligations.StepKeepsInvariant : Prop :=
  ∀ s t : State, s.Inv → step s = .next t → t.Inv

/-- R34, R70: a state that meets the invariant has a next state, so no run ever stops. That an index outside a buffer would be
a stop, `badAddress`, is the model's choice (log entry 9). -/
def Obligations.NoRunStops : Prop :=
  (∀ s : State, s.Inv → ∃ t, step s = .next t)
    ∧ ∀ (cfg : Config) (s : State), cfg.wf = true → Reachable cfg s → ∃ t, step s = .next t

/-- R30, R32 to R42, R51, R60: each register is written only by the operations its rule names; the parameters and the host's
side of the port are written by none. A command as an instruction (the model's choice, log entry 2) writes what its action
writes: `seq_ctr` in its request form, `configured` in CONFIG's receive form. -/
def Obligations.RegistersHaveTheirWriters : Prop :=
  ∀ (i : Instr) (s t : State), exec i s = .next t →
    (t.cfg = s.cfg ∧ t.pending = s.pending ∧ t.data = s.data ∧ t.answers = s.answers)
      ∧ (t.seqCtr ≠ s.seqCtr →
          i = .reset ∨ (∃ c re, i = .buildRequest c re) ∨ ∃ k re, i = Command.instr k ∧ s.data.action = .request re)
      ∧ (t.configured ≠ s.configured →
          i = .reset ∨ i = .onReceive ∨ (i = .cmdConfig ∧ s.data.action = .receive))
      ∧ (t.rc ≠ s.rc ∨ t.dstate ≠ s.dstate ∨ t.rxBuf ≠ s.rxBuf ∨ t.rxValid ≠ s.rxValid ∨ t.rxPkt ≠ s.rxPkt
            ∨ t.lastRxEvent ≠ s.lastRxEvent → i = .reset ∨ ∃ b, i = .pushByte b)
      ∧ (t.txBuf ≠ s.txBuf ∨ t.txLen ≠ s.txLen ∨ t.txLost ≠ s.txLost → i = .reset ∨ i = .encode)
      ∧ (t.txPending ≠ s.txPending → i = .reset ∨ i = .encode ∨ i = .txFrame)
      ∧ (t.fault ≠ s.fault →
          i = .reset
            ∨ (s.fault = .noFault
              ∧ (i = .encode ∨ (∃ b, i = .pushByte b) ∨ (∃ c re, i = .buildRequest c re) ∨ i = .buildResponse
                ∨ i = .onReceive ∨ ∃ k, i = Command.instr k)))

/-- R37, R39, R47: what no rule reads is never seen. Two states that differ only in bytes of `rx_buf` at `rc` and above, in
bytes of `tx_buf` at `tx_len` and above, and in `rx_pkt` while no packet is held, take steps with the same outcome and the
same outputs, to states that again differ only so. -/
def Obligations.UnreadStateIsUnobservable : Prop :=
  ∀ s t : State, SameObservable s t → SameOutcome SameObservable (step s) (step t)

/-! ### Control operations -/

/-- R240: RESET, `opsel` 0x0, gives every register its reset value, whatever `fault` is, and answers OK; the parameters stay,
and a second RESET changes nothing. The value of `rx_pkt` is left open. -/
def Obligations.ResetPutsEveryRegister : Prop :=
  decodePort 0x00000000 = .ok .reset ∧ ∀ s : State, ∃ t, exec .reset s = .next t
    ∧ t = { s with
            seqCtr := s.cfg.seqReset, configured := false, rc := 0, dstate := .awaitingMagic, rxBuf := t.rxBuf,
            rxValid := false, rxPkt := t.rxPkt, lastRxEvent := .noEvent, txBuf := t.txBuf, txLen := 0,
            txPending := false, txLost := false, fault := .noFault,
            out := { status := .ok, val := .nothing, asks := [] } }
    ∧ (∀ a, Memory.read t.rxBuf a = 0) ∧ (∀ a, Memory.read t.txBuf a = 0) ∧ exec .reset t = .next t

/-- R280, R281: RESET in the state the machine starts in changes no register the spec gives a reset value; READ_STATUS there
gives `SEQ_RESET << 16` and 0, and every such register has its value. The value of `rx_pkt` and the outputs before the first
operation are left open (log entries 5 and 8). -/
def Obligations.ConstructionCountsAsReset : Prop :=
  (State.initial Config.default = State.reset) ∧ ∀ cfg : Config, let s := State.initial cfg
    (∃ t, exec .reset s = .next t ∧ t = { s with rxPkt := t.rxPkt, out := t.out })
      ∧ (∃ t, exec .readStatus s = .next t
          ∧ t.out = { status := .ok, val := .statusWords (cfg.seqReset.zeroExtend 32 <<< 16) 0, asks := [] })
      ∧ s.seqCtr = cfg.seqReset ∧ s.configured = false ∧ s.rc = 0 ∧ s.dstate = .awaitingMagic ∧ s.rxValid = false
      ∧ s.lastRxEvent = .noEvent ∧ s.txLen = 0 ∧ s.txPending = false ∧ s.txLost = false ∧ s.fault = .noFault
      ∧ ∀ a, Memory.read s.rxBuf a = 0 ∧ Memory.read s.txBuf a = 0

/-- R241: TX_FRAME, `opsel` 0x7, returns the `tx_len` bytes of `tx_buf` as it stands and clears `tx_pending`; it changes nothing else, so
a second TX_FRAME returns the same bytes. In the faulted state it only reports the fault. -/
def Obligations.TxFrameHandsOverFrame : Prop :=
  decodePort 0x00000007 = .ok .txFrame ∧ ∀ s : State,
    (s.fault ≠ .noFault → exec .txFrame s = .next (reported s))
      ∧ (s.fault = .noFault → s.txLen.toNat ≤ s.cfg.frameMax →
          ∃ f : Bytes, f.length = s.txLen.toNat ∧ (∀ a, a < f.length → f.getD a 0 = Memory.read s.txBuf a)
            ∧ exec .txFrame s
                = .next { s with txPending := false, out := { status := .ok, val := .frame f, asks := [] } })

/-- R48, R49, R242: READ_STATUS, `opsel` 0x8, writes no state, acts in the faulted state too, and returns the two words field by field
(the codes of R35, R38 and R42). -/
def Obligations.ReadStatusReturnsTheWords : Prop :=
  decodePort 0x00000008 = .ok .readStatus ∧ ∀ s : State, ∃ w0 w1 : Word32,
    exec .readStatus s
        = .next { s with
                  out :=
                    { status := if s.fault = .noFault then .ok else .fault s.fault, val := .statusWords w0 w1,
                      asks := [] } }
      ∧ (w0.extractLsb' 0 2).toNat
          = (match s.dstate with
              | .awaitingMagic => 0 | .awaitingLength => 1 | .accumulatingPayload => 2 | .frameComplete => 3)
      ∧ w0.getLsbD 2 = s.rxValid ∧ w0.getLsbD 3 = s.txPending ∧ w0.getLsbD 4 = s.configured
      ∧ (w0.extractLsb' 5 3).toNat
          = (match s.lastRxEvent with
              | .noEvent => 0 | .progress => 1 | .frameOk => 2 | .magicErr => 3 | .lengthErr => 4 | .checksumErr => 5)
      ∧ w0.extractLsb' 8 8 = s.rc ∧ w0.extractLsb' 16 8 = s.seqCtr
      ∧ (w0.extractLsb' 24 3).toNat
          = (match s.fault with
              | .noFault => 0 | .frameOverflow => 1 | .noPacket => 2 | .decodeOverrun => 3 | .callbackContract => 4
              | .illegalOp => 5)
      ∧ w0.getLsbD 27 = s.txLost ∧ w0.extractLsb' 28 4 = 0
      ∧ w1.extractLsb' 0 8 = s.txLen
      ∧ (s.rxPkt.payload.length ≤ 255 →
          (w1.extractLsb' 8 8).toNat = if s.rxValid then s.rxPkt.payload.length else 0)
      ∧ w1.extractLsb' 16 16 = 0

/-! ### Frame Codec -/

/-- R130: CHK starts at CKSUM_INIT and takes each byte in by exclusive-or; the order of the bytes does not matter. -/
def Obligations.ChkIsRunningXor : Prop :=
  ∀ cfg : Config,
    chk cfg [] = cfg.cksumInit ∧ (∀ (s : Bytes) (b : Byte), chk cfg (s ++ [b]) = chk cfg s ^^^ b)
      ∧ ∀ s t : Bytes, s.Perm t → chk cfg s = chk cfg t

/-- R135: the laws of the checksum: concatenation, one corrupted byte, two corruptions that cancel. -/
def Obligations.ChecksumLaws : Prop :=
  ∀ cfg : Config,
    (∀ s t : Bytes, chk cfg (s ++ t) = chk cfg s ^^^ chk cfg t ^^^ cfg.cksumInit)
      ∧ (∀ (s : Bytes) (i : Nat) (d : Byte), i < s.length → chk cfg (s.set i (s.getD i 0 ^^^ d)) = chk cfg s ^^^ d)
      ∧ ∀ (s : Bytes) (i j : Nat) (d : Byte), i < s.length → j < s.length → i ≠ j →
          chk cfg ((s.set i (s.getD i 0 ^^^ d)).set j (s.getD j 0 ^^^ d)) = chk cfg s

/-- R131, R132, R133: ENCODE, `opsel` 0x1, reports a sticky fault, raises FRAME_OVERFLOW exactly when the frame would be longer than
FRAME_MAX, and else writes the frame of R80 and nothing beyond it, and records an untaken frame as lost. -/
def Obligations.EncodeWritesTheFrame : Prop :=
  decodePort 0x00000001 = .ok .encode ∧ ∀ s : State, let p := s.data.packet; let n := p.payload.length
    (s.fault ≠ .noFault → exec .encode s = .next (reported s))
      ∧ (s.fault = .noFault → s.cfg.frameMax < 8 + n → exec .encode s = .next (faulted s .frameOverflow []))
      ∧ (s.fault = .noFault → 8 + n ≤ s.cfg.frameMax → ∃ t, exec .encode s = .next t
          ∧ t = { s with
                  txBuf := t.txBuf, txLen := BitVec.ofNat 8 (8 + n), txPending := true,
                  txLost := s.txLost || s.txPending,
                  out := { status := .ok, val := .txLen (BitVec.ofNat 8 (8 + n)), asks := [] } }
          ∧ Memory.readBytes t.txBuf 0 (8 + n)
              = [s.cfg.magicA, s.cfg.magicK ^^^ s.cfg.magicA, BitVec.ofNat 8 (8 + n),
                 chk s.cfg ([p.seq, BitVec.ofNat 8 n, p.flags, p.cmd] ++ p.payload),
                 p.seq, BitVec.ofNat 8 n, p.flags, p.cmd] ++ p.payload
          ∧ ∀ a, 8 + n ≤ a → Memory.read t.txBuf a = Memory.read s.txBuf a)

/-- R134: CHECKSUM, `opsel` 0x2, outputs CHK of its operand, of any length, and writes no state. -/
def Obligations.ChecksumOutputsChk : Prop :=
  decodePort 0x00000002 = .ok .checksum ∧ ∀ s : State,
    (s.fault ≠ .noFault → exec .checksum s = .next (reported s))
      ∧ (s.fault = .noFault → exec .checksum s = .next (answered s (.check (chk s.cfg s.data.str)) []))

/-! ### Decode State Machine -/

/-- R150 to R164: PUSH_BYTE is the decoder over the list of held bytes: the bytes held, the position, the event, the packet
and the decoder state are those of the list; nothing but the decoder's registers changes. -/
def Obligations.PushByteRefinesListDecoder : Prop :=
  ∀ (s : State) (b : Byte), s.fault = .noFault → s.rc.toNat < s.cfg.frameMax → s.cfg.frameMax ≤ 255 →
    let r := listPush s.cfg s.held b
    ∃ t, exec (.pushByte b) s = .next t ∧ t.held = r.1 ∧ t.rc.toNat = r.1.length ∧ t.lastRxEvent = r.2.1
      ∧ t.dstate = listDState r.2.1 r.1.length ∧ t.rxValid = r.2.2.isSome ∧ t.rxPkt = r.2.2.getD s.rxPkt
      ∧ t.out = { status := .ok, val := .push r.2.2 r.2.1, asks := [] }
      ∧ t = { s with
              rc := t.rc, dstate := t.dstate, rxBuf := t.rxBuf, rxValid := t.rxValid, rxPkt := t.rxPkt,
              lastRxEvent := t.lastRxEvent, out := t.out }

/-- R151, R152, R158: a byte that is the first of its attempt, the fourth, or a later one that does not make `rc` equal to
total_length is stored at `rc`; the event is PROGRESS, and the held packet is dropped. -/
def Obligations.PushByteInProgress : Prop :=
  ∀ (s : State) (b : Byte), s.fault = .noFault → s.rc.toNat < s.cfg.frameMax → s.cfg.frameMax ≤ 255 →
    s.rc.toNat = 0 ∨ s.rc.toNat = 3 ∨ (4 ≤ s.rc.toNat ∧ s.rc.toNat + 1 ≠ (Memory.read s.rxBuf 2).toNat) →
    ∃ t, exec (.pushByte b) s = .next t
      ∧ t = { s with
              rxBuf := t.rxBuf, rxValid := false, rc := s.rc + 1,
              dstate := if s.rc.toNat = 0 then .awaitingMagic else .accumulatingPayload, lastRxEvent := .progress,
              out := { status := .ok, val := .push none .progress, asks := [] } }
      ∧ Memory.read t.rxBuf s.rc.toNat = b
      ∧ ∀ a, a ≠ s.rc.toNat → Memory.read t.rxBuf a = Memory.read s.rxBuf a

/-- R153 to R156: the second byte of an attempt decides the magic pair, under MAGIC_CHECK and RESYNC. -/
def Obligations.MagicPairDecides : Prop :=
  ∀ (s : State) (b : Byte), s.fault = .noFault → s.rc.toNat = 1 → 2 ≤ s.cfg.frameMax →
    let x := Memory.read s.rxBuf 0
    let a := s.cfg.magicA
    let bb := s.cfg.magicK ^^^ s.cfg.magicA
    let good : Prop :=
      match s.cfg.magicCheck with
      | .any => x = a ∧ b = bb
      | .both => ¬(x ≠ a ∧ b ≠ bb)
    ∃ t, exec (.pushByte b) s = .next t
      ∧ (good →
          t = { s with
                rxBuf := t.rxBuf, rxValid := false, rc := 2, dstate := .awaitingLength, lastRxEvent := .progress,
                out := { status := .ok, val := .push none .progress, asks := [] } }
            ∧ Memory.read t.rxBuf 1 = b ∧ ∀ i, i ≠ 1 → Memory.read t.rxBuf i = Memory.read s.rxBuf i)
      ∧ (¬good → s.cfg.resync = .slide → b = a →
          t = { s with
                rxBuf := t.rxBuf, rxValid := false, rc := 1, dstate := .awaitingMagic, lastRxEvent := .magicErr,
                out := { status := .ok, val := .push none .magicErr, asks := [] } }
            ∧ Memory.read t.rxBuf 0 = a ∧ ∀ i, i ≠ 0 → Memory.read t.rxBuf i = 0)
      ∧ (¬good → s.cfg.resync = .pair ∨ b ≠ a →
          t = { s with
                rxBuf := t.rxBuf, rxValid := false, rc := 0, dstate := .awaitingMagic, lastRxEvent := .magicErr,
                out := { status := .ok, val := .push none .magicErr, asks := [] } }
            ∧ ∀ i, Memory.read t.rxBuf i = 0)

/-- R157: the third byte of an attempt is total_length; with the early check a value outside `8..FRAME_MAX` is a LENGTH_ERR
at once, and any other value starts the accumulation. -/
def Obligations.LengthByteDecides : Prop :=
  ∀ (s : State) (b : Byte), s.fault = .noFault → s.rc.toNat = 2 → 3 ≤ s.cfg.frameMax →
    let bad : Prop := s.cfg.earlyLengthCheck = true ∧ (b.toNat < 8 ∨ s.cfg.frameMax < b.toNat)
    ∃ t, exec (.pushByte b) s = .next t
      ∧ (bad →
          t = { s with
                rxBuf := t.rxBuf, rxValid := false, rc := 0, dstate := .awaitingMagic, lastRxEvent := .lengthErr,
                out := { status := .ok, val := .push none .lengthErr, asks := [] } }
            ∧ ∀ i, Memory.read t.rxBuf i = 0)
      ∧ (¬bad →
          t = { s with
                rxBuf := t.rxBuf, rxValid := false, rc := 3, dstate := .accumulatingPayload, lastRxEvent := .progress,
                out := { status := .ok, val := .push none .progress, asks := [] } }
            ∧ Memory.read t.rxBuf 2 = b ∧ ∀ i, i ≠ 2 → Memory.read t.rxBuf i = Memory.read s.rxBuf i)

/-- R159 to R162: the byte that makes `rc` equal to total_length completes the frame `f`; the length is checked first, then
the checksum, and a valid frame's packet is held and output. -/
def Obligations.CompletionValidatesFrame : Prop :=
  ∀ (s : State) (b : Byte), s.fault = .noFault → s.rc.toNat < s.cfg.frameMax → s.cfg.frameMax ≤ 255 →
    4 ≤ s.rc.toNat → s.rc.toNat + 1 = (Memory.read s.rxBuf 2).toNat →
    let f := s.held ++ [b]
    let p : Packet := { seq := f.getD 4 0, flags := f.getD 6 0, cmd := f.getD 7 0, payload := f.drop 8 }
    let badLength : Prop := f.length < 8 ∨ f.length ≠ 8 + (f.getD 5 0).toNat
    ∃ t, exec (.pushByte b) s = .next t
      ∧ (badLength →
          t = { s with
                rxBuf := t.rxBuf, rxValid := false, rc := 0, dstate := .awaitingMagic, lastRxEvent := .lengthErr,
                out := { status := .ok, val := .push none .lengthErr, asks := [] } }
            ∧ ∀ i, Memory.read t.rxBuf i = 0)
      ∧ (¬badLength → chk s.cfg (f.drop 4) ≠ f.getD 3 0 →
          t = { s with
                rxBuf := t.rxBuf, rxValid := false, rc := 0, dstate := .awaitingMagic, lastRxEvent := .checksumErr,
                out := { status := .ok, val := .push none .checksumErr, asks := [] } }
            ∧ ∀ i, Memory.read t.rxBuf i = 0)
      ∧ (¬badLength → chk s.cfg (f.drop 4) = f.getD 3 0 →
          t = { s with
                rxBuf := t.rxBuf, rxValid := true, rxPkt := p, rc := 0, dstate := .frameComplete,
                lastRxEvent := .frameOk, out := { status := .ok, val := .push (some p) .frameOk, asks := [] } }
            ∧ Memory.read t.rxBuf s.rc.toNat = b
            ∧ ∀ a, a ≠ s.rc.toNat → Memory.read t.rxBuf a = Memory.read s.rxBuf a)

/-- R254: PUSH_BYTE at `rc = FRAME_MAX` raises DECODE_OVERRUN and writes nothing else. -/
def Obligations.PushByteOverrun : Prop :=
  ∀ (s : State) (b : Byte), s.fault = .noFault → s.rc.toNat = s.cfg.frameMax →
    exec (.pushByte b) s = .next (faulted s .decodeOverrun [])

/-- R171: with the early length check PUSH_BYTE never raises DECODE_OVERRUN; without it, a total_length of 0 to 4 or above
FRAME_MAX fills the buffer and the next byte raises it, and one of 5 to 7 ends in LENGTH_ERR. -/
def Obligations.LengthRuleGovernsOverrun : Prop :=
  (∀ (s : State) (b : Byte), s.Inv → s.cfg.earlyLengthCheck = true → s.fault = .noFault →
      ∃ t, exec (.pushByte b) s = .next t ∧ t.fault = .noFault)
    ∧ (∀ (s : State) (tl b : Byte) (bs : Bytes), s.cfg.wf = true → s.cfg.earlyLengthCheck = false →
        s.fault = .noFault → s.rc.toNat = 2 → tl.toNat ≤ 4 ∨ s.cfg.frameMax < tl.toNat →
        bs.length = s.cfg.frameMax - 3 →
        ∃ u, pushBytes (tl :: bs) s = .next u ∧ u.fault = .noFault ∧ u.rc.toNat = s.cfg.frameMax
          ∧ exec (.pushByte b) u = .next (faulted u .decodeOverrun []))
    ∧ ∀ (s : State) (tl : Byte) (bs : Bytes), s.cfg.wf = true → s.cfg.earlyLengthCheck = false →
        s.fault = .noFault → s.rc.toNat = 2 → 5 ≤ tl.toNat → tl.toNat ≤ 7 → bs.length = tl.toNat - 3 →
        ∃ u, pushBytes (tl :: bs) s = .next u ∧ u.rc = 0 ∧ u.fault = .noFault
          ∧ u.out = { status := .ok, val := .push none .lengthErr, asks := [] }

/-- R166: a frame that ENCODE produced, pushed byte by byte into a decoder at `rc = 0`, gives PROGRESS up to its last byte
and then FRAME_OK with the packet encoded, under every setting of the parameters. -/
def Obligations.DecodeOfEncodedFrame : Prop :=
  ∀ (s : State) (p : Packet) (f : Bytes), s.cfg.wf = true → FrameOf s.cfg p f → s.fault = .noFault → s.rc = 0 →
    DecodesTo f p s

/-- R167: with MAGIC_CHECK = ANY and the early length check, a frame with any one byte changed never gives its packet, and is
rejected: a changed magic byte with MAGIC_ERR at the second byte; a changed total_length `v` with LENGTH_ERR, at the third byte
if it is out of range and else at the `v`-th byte, which may come after the frame; a changed payload_length with LENGTH_ERR,
and a changed checksum, sequence, flags, command or payload byte with CHECKSUM_ERR, at the frame's last byte. -/
def Obligations.OneCorruptedByteIsDetected : Prop :=
  ∀ (s : State) (p : Packet) (f : Bytes) (i : Nat) (d : Byte), s.cfg.wf = true → s.cfg.magicCheck = .any →
    s.cfg.earlyLengthCheck = true → FrameOf s.cfg p f → s.fault = .noFault → s.rc = 0 → i < f.length → d ≠ 0 →
    let g := f.set i (f.getD i 0 ^^^ d)
    let v := (g.getD 2 0).toNat
    (∀ k, k < f.length → ∃ u, pushBytes (g.take (k + 1)) s = .next u ∧ u.fault = .noFault
        ∧ ∀ e, u.out.val ≠ .push (some p) e)
      ∧ (i < 2 → RejectsWith (g.take 2) .magicErr s)
      ∧ (i = 2 → v < 8 ∨ s.cfg.frameMax < v → RejectsWith (g.take 3) .lengthErr s)
      ∧ (i = 2 → 8 ≤ v → v ≤ s.cfg.frameMax →
          ∀ tail : Bytes, v ≤ (g ++ tail).length → RejectsWith ((g ++ tail).take v) .lengthErr s)
      ∧ (i = 5 → RejectsWith g .lengthErr s)
      ∧ (i = 3 ∨ i = 4 ∨ 6 ≤ i → RejectsWith g .checksumErr s)

/-- R170: with MAGIC_CHECK = BOTH, a frame with one corrupted magic byte is accepted and returned. -/
def Obligations.BothAcceptsOneBadMagicByte : Prop :=
  ∀ (s : State) (p : Packet) (f : Bytes) (i : Nat) (x : Byte), s.cfg.wf = true → s.cfg.magicCheck = .both →
    FrameOf s.cfg p f → s.fault = .noFault → s.rc = 0 → i < 2 → DecodesTo (f.set i x) p s

/-- R168, PAIR: garbage that keeps the pairs aligned and holds no compared pair that passes, then a frame, yields exactly
the frame's packet. -/
def Obligations.PairResynchronises : Prop :=
  ∀ (s : State) (g : Bytes) (p : Packet) (f : Bytes), s.cfg.wf = true → s.cfg.resync = .pair → FrameOf s.cfg p f →
    s.fault = .noFault → s.rc.toNat ≤ 1 → (s.held ++ g).length % 2 = 0 →
    (∀ i, 2 * i + 1 < (s.held ++ g).length →
      magicOk s.cfg ((s.held ++ g).getD (2 * i) 0) ((s.held ++ g).getD (2 * i + 1) 0) = false) →
    YieldsExactly g f p s

/-- R168, SLIDE: garbage without an adjacent magic pair, then a frame, yields exactly the frame's packet. -/
def Obligations.SlideResynchronises : Prop :=
  ∀ (s : State) (g : Bytes) (p : Packet) (f : Bytes), s.cfg.wf = true → s.cfg.resync = .slide →
    s.cfg.magicCheck = .any → s.cfg.magicA ≠ s.cfg.magicB → FrameOf s.cfg p f → s.fault = .noFault → s.rc = 0 →
    (∀ i, i + 1 < g.length → ¬(g.getD i 0 = s.cfg.magicA ∧ g.getD (i + 1) 0 = s.cfg.magicB)) →
    YieldsExactly g f p s

/-- R169: at `rc = 0` the decoder has no memory: whatever is pushed next, it behaves as after RESET. -/
def Obligations.DecoderForgets : Prop :=
  ∀ (s : State) (bs : Bytes), s.cfg.wf = true → s.fault = .noFault → s.rc = 0 → bs ≠ [] →
    ∀ r, exec .reset s = .next r → SameOutcome SameDecoder (pushBytes bs r) (pushBytes bs s)

/-- R288: one pad byte realigns a decoder that holds one stale byte under PAIR. -/
def Obligations.PadByteRealigns : Prop :=
  ∀ (s : State) (d : Byte), s.fault = .noFault → s.rc.toNat = 1 → 2 ≤ s.cfg.frameMax → s.cfg.resync = .pair →
    d ≠ s.cfg.magicK ^^^ s.cfg.magicA → s.cfg.magicCheck = .any ∨ Memory.read s.rxBuf 0 ≠ s.cfg.magicA →
    ∃ t, exec (.pushByte d) s = .next t ∧ t.rc = 0 ∧ t.dstate = .awaitingMagic ∧ t.lastRxEvent = .magicErr
      ∧ t.fault = .noFault ∧ t.seqCtr = s.seqCtr ∧ t.configured = s.configured

/-! ### Command Dispatch Engine: requests -/

/-- R187, R190, R195 to R197, R199: a request of INFO, STATUS, NODE_AWAKE, OTA, VMCU_OTA or DEBUG_BLINK has an empty
payload, built by BUILD_REQUEST and by the command as an instruction (log entry 2) alike. -/
def Obligations.RequestsWithoutPayload : Prop :=
  ∀ (s : State) (re : Bool) (k : Command) (i : Instr), s.cfg.wf = true → s.fault = .noFault →
    (k, i) ∈ [(Command.info, Instr.cmdInfo), (.status, .cmdStatus), (.nodeAwake, .cmdNodeAwake), (.ota, .cmdOta),
      (.vmcuOta, .cmdVmcuOta), (.debugBlink, .cmdDebugBlink)] →
    exec (.buildRequest (s.cfg.code k) re) s = .next (requested s k re [] [])
      ∧ (s.data.action = .request re → exec i s = .next (requested s k re [] []))

/-- R185: a PING request carries PING_TEXT. -/
def Obligations.PingRequest : Prop :=
  ∀ (s : State) (re : Bool), s.cfg.wf = true → s.fault = .noFault →
    exec (.buildRequest (s.cfg.code .ping) re) s = .next (requested s .ping re s.cfg.pingText [])
      ∧ (s.data.action = .request re → exec .cmdPing s = .next (requested s .ping re s.cfg.pingText []))

/-- R186: an AUTH request carries `ssid ++ pass`, each of its fixed length; where the parameters make it too long for a
frame it raises FRAME_OVERFLOW. -/
def Obligations.AuthRequest : Prop :=
  ∀ (s : State) (re : Bool), s.cfg.wf = true → s.fault = .noFault → s.data.ssid.length = s.cfg.ssidLen →
    s.data.pass.length = s.cfg.passLen →
    let t := requestedIfFits s .auth re (s.data.ssid ++ s.data.pass) []
    exec (.buildRequest (s.cfg.code .auth) re) s = .next t
      ∧ (s.data.action = .request re → exec .cmdAuth s = .next t)

/-- R188: a CONFIG request is a fetch without a blob and a store with one; a payload too long for a frame raises
FRAME_OVERFLOW. -/
def Obligations.ConfigRequest : Prop :=
  ∀ (s : State) (re : Bool), s.cfg.wf = true → s.fault = .noFault →
    let t :=
      match s.data.blob with
      | none => requestedIfFits s .config re [1 <<< s.cfg.fetchBit.val] []
      | some b => requestedIfFits s .config re (((1 <<< s.cfg.etBit.val) ||| (1 <<< s.cfg.storeBit.val)) :: b) []
    exec (.buildRequest (s.cfg.code .config) re) s = .next t
      ∧ (s.data.action = .request re → exec .cmdConfig s = .next t)

/-- R189, R255: a STATE request with `store = 0` is a fetch; with `store = 1` it asks `export_state(PMAX - 1)` and carries
the answer, or raises CALLBACK_CONTRACT when the answer breaks its contract. PMAX - 1 as 0 where PMAX is 0 is the model's
reading (log entry 11). -/
def Obligations.StateRequest : Prop :=
  ∀ (s : State) (re : Bool), s.cfg.wf = true → s.fault = .noFault →
    let n := s.answers.exportLen
    let d := s.answers.exportData
    let ask := Ask.exportState (s.cfg.frameMax - 8 - 1)
    let t :=
      if s.data.store = false then requestedIfFits s .state re [1 <<< s.cfg.fetchBit.val] []
      else if n ≤ s.cfg.frameMax - 8 - 1 ∧ d.length = n then
        requestedIfFits s .state re (((1 <<< s.cfg.etBit.val) ||| (1 <<< s.cfg.storeBit.val)) :: d) [ask]
      else faulted s .callbackContract [ask]
    exec (.buildRequest (s.cfg.code .state) re) s = .next t
      ∧ (s.data.action = .request re → exec .cmdState s = .next t)

/-- R191, R100: a LOG request carries the log-event record, with the text form or the pair form of its data. -/
def Obligations.LogRequest : Prop :=
  ∀ (s : State) (re : Bool), s.cfg.wf = true → s.fault = .noFault →
    let g := s.data.log
    let e := s.cfg.endian
    (s.cfg.logIsText.getLsbD g.logType.toNat = true → g.text.length = s.cfg.logDataLen) →
    let data :=
      if s.cfg.logIsText.getLsbD g.logType.toNat then g.text
      else u32Bytes e g.fbits ++ u32Bytes e g.ival ++ List.replicate (s.cfg.logDataLen - 8) 0
    let t :=
      requestedIfFits s .log re
        ([g.logType, g.status, g.source, g.sourceIndex] ++ u32Bytes e g.timestamp ++ u32Bytes e g.count ++ data) []
    exec (.buildRequest (s.cfg.code .log) re) s = .next t
      ∧ (s.data.action = .request re → exec .cmdLog s = .next t)

/-- R192, R193, R194: TIME, SCHEDULE_WAKEUP and NODE_SLEEP requests carry their 32-bit millisecond operand. -/
def Obligations.MillisecondRequests : Prop :=
  ∀ (s : State) (re : Bool) (k : Command) (i : Instr) (v : Word32), s.cfg.wf = true → s.fault = .noFault →
    (k, i, v) ∈ [(Command.time, Instr.cmdTime, s.data.tMs), (.scheduleWakeup, .cmdScheduleWakeup, s.data.durationMs),
      (.nodeSleep, .cmdNodeSleep, s.data.deadlineMs)] →
    let t := requestedIfFits s k re (u32Bytes s.cfg.endian v) []
    exec (.buildRequest (s.cfg.code k) re) s = .next t ∧ (s.data.action = .request re → exec i s = .next t)

/-- R198, R107: a SET_NODE_PROPERTIES request carries `props` and then `aux`. -/
def Obligations.SetNodePropertiesRequest : Prop :=
  ∀ (s : State) (re : Bool), s.cfg.wf = true → s.fault = .noFault →
    let t :=
      requestedIfFits s .setNodeProperties re
        (u32Bytes s.cfg.endian s.data.props ++ u64Bytes s.cfg.endian s.data.aux) []
    exec (.buildRequest (s.cfg.code .setNodeProperties) re) s = .next t
      ∧ (s.data.action = .request re → exec .cmdSetNodeProperties s = .next t)

/-- R181: a BUILD_REQUEST that does not fault gives its packet the number `seq_ctr` holds and advances `seq_ctr` by 1 modulo
256; a faulting one consumes no number; no other port operation but RESET changes `seq_ctr`, and after RESET the first
request carries SEQ_RESET. -/
def Obligations.SequenceAllocation : Prop :=
  (∀ (c : Byte) (re : Bool) (s t : State), exec (.buildRequest c re) s = .next t →
      (t.fault = .noFault → t.seqCtr = s.seqCtr + 1 ∧ ∃ p, t.out.val = .request p ∧ p.seq = s.seqCtr)
        ∧ (t.fault ≠ .noFault → t.seqCtr = s.seqCtr))
    ∧ (∀ (i : Instr) (s t : State),
        (i ∈ [.encode, .checksum, .buildResponse, .onReceive, .txFrame, .readStatus] ∨ ∃ b, i = .pushByte b) →
        exec i s = .next t → t.seqCtr = s.seqCtr)
    ∧ ∀ s : State, ∃ t, exec .reset s = .next t ∧ t.seqCtr = s.cfg.seqReset

/-- R202: the requests built in a run without RESET carry consecutive numbers, whatever else is interleaved. -/
def Obligations.SequenceNumbersAreConsecutive : Prop :=
  ∀ (n : Nat) (s : State), (∀ r ∈ s.pending, decode s.cfg r.code ≠ .ok .reset) →
    ∀ i, i < (requestSeqs n s).length → (requestSeqs n s).getD i 0 = s.seqCtr + BitVec.ofNat 8 i

/-! ### Command Dispatch Engine: responses and routing -/

/-- R182: BUILD_RESPONSE, `opsel` 0x5, gives none unless response_expected is set, else the response with the payload of its
command. It writes no register but `fault`. That a FRAME_OVERFLOW records the ask made for the blob is the model's reading of
R182's pseudocode against R257 (log entry 10). -/
def Obligations.BuildResponseAnswers : Prop :=
  decodePort 0x00000005 = .ok .buildResponse ∧ ∀ s : State, s.cfg.wf = true →
    let q := s.rxPkt
    let r := responseData s.cfg s.answers q
    (s.fault ≠ .noFault → exec .buildResponse s = .next (reported s))
      ∧ (s.fault = .noFault → s.rxValid = false → exec .buildResponse s = .next (faulted s .noPacket []))
      ∧ (s.fault = .noFault → s.rxValid = true → q.flags.getLsbD s.cfg.reBit.val = false →
          exec .buildResponse s = .next (answered s (.response none) []))
      ∧ (s.fault = .noFault → s.rxValid = true → q.flags.getLsbD s.cfg.reBit.val = true →
          exec .buildResponse s
            = .next (if s.cfg.frameMax < 8 + r.1.length then faulted s .frameOverflow r.2
                else answered s
                  (.response (some { seq := q.seq, flags := 1 <<< s.cfg.irBit.val, cmd := q.cmd, payload := r.1 })) r.2))

/-- R183: ON_RECEIVE, `opsel` 0x6, routes CONFIG with ET set to `apply_config`, whose answer becomes `configured`, and STATE with ET and
STORE set to `restore_state`, whose answer is discarded; everything else routes NONE. The routes have the values 0, 1, 2. -/
def Obligations.OnReceiveRoutes : Prop :=
  decodePort 0x00000006 = .ok .onReceive
    ∧ routeCode .noRoute = 0 ∧ routeCode .applyConfig = 1 ∧ routeCode .restoreState = 2 ∧ ∀ s : State, s.cfg.wf = true →
    let q := s.rxPkt
    let f := q.payload.getD 0 0
    let b := q.payload.drop 1
    (s.fault ≠ .noFault → exec .onReceive s = .next (reported s))
      ∧ (s.fault = .noFault → s.rxValid = false → exec .onReceive s = .next (faulted s .noPacket []))
      ∧ (s.fault = .noFault → s.rxValid = true →
          exec .onReceive s
            = .next (if q.cmd = s.cfg.code .config ∧ f.getLsbD s.cfg.etBit.val = true then
                  answered { s with configured := s.answers.applyConfig } (.route .applyConfig)
                    [.applyConfig b b.length]
                else if q.cmd = s.cfg.code .state ∧ f.getLsbD s.cfg.etBit.val = true
                    ∧ f.getLsbD s.cfg.storeBit.val = true then
                  answered s (.route .restoreState) [.restoreState b b.length]
                else answered s (.route .noRoute) []))

/-- R184: no operation of the dispatch engine writes codec or decoder state or clears `rx_valid`. -/
def Obligations.DispatchTouchesNoCodecOrDecoderState : Prop :=
  ∀ (i : Instr) (s t : State), dispatchInstr i = true → exec i s = .next t →
    t = { s with seqCtr := t.seqCtr, configured := t.configured, fault := t.fault, out := t.out }

/-- R185 to R199 against R180, R182 and R183: a command as an instruction (the model's choice, log entry 2) does what the
port operation does for that command: its request is BUILD_REQUEST's; its response and its receive action are those of
BUILD_RESPONSE and ON_RECEIVE on the held packet taken as a packet of the command, so on a held packet of the command they are
BUILD_RESPONSE and ON_RECEIVE. -/
def Obligations.CommandRunsItsPortOperation : Prop :=
  ∀ (s : State) (k : Command), s.cfg.wf = true →
    let s' := { s with rxPkt := { s.rxPkt with cmd := s.cfg.code k } }
    (∀ re, s.data.action = .request re → exec k.instr s = exec (.buildRequest (s.cfg.code k) re) s)
      ∧ (s.data.action = .response →
          ∃ u, exec .buildResponse s' = .next u ∧ exec k.instr s = .next { u with rxPkt := s.rxPkt })
      ∧ (s.data.action = .receive →
          ∃ u, exec .onReceive s' = .next u ∧ exec k.instr s = .next { u with rxPkt := s.rxPkt })
      ∧ (s.rxPkt.cmd = s.cfg.code k → s.data.action = .response → exec k.instr s = exec .buildResponse s)
      ∧ (s.rxPkt.cmd = s.cfg.code k → s.data.action = .receive → exec k.instr s = exec .onReceive s)

/-- R91, R200: a command byte outside the catalog, issued as a selection (the model's choice, log entries 2 and 4), is not
illegal by itself: its request raises ILLEGAL_OP, its response is the empty acknowledgement, its receive action routes NONE. -/
def Obligations.UncataloguedCommandByte : Prop :=
  ∀ (s : State) (r : PortRequest) (rest : List PortRequest) (b : Byte), s.cfg.wf = true → s.pending = r :: rest →
    r.code = .command b → (∀ k, s.cfg.code k ≠ b) →
    let t := { s with pending := rest, data := r.data, answers := r.answers }
    (s.fault ≠ .noFault → step s = .next (reported t))
      ∧ (s.fault = .noFault → ∀ re, r.data.action = .request re → step s = .next (faulted t .illegalOp []))
      ∧ (s.fault = .noFault → r.data.action = .response →
          step s = .next (if s.rxValid = false then faulted t .noPacket []
            else answered t
              (.response (if s.rxPkt.flags.getLsbD s.cfg.reBit.val = false then none
                else some { seq := s.rxPkt.seq, flags := 1 <<< s.cfg.irBit.val, cmd := b, payload := [] })) []))
      ∧ (s.fault = .noFault → r.data.action = .receive →
          step s = .next (if s.rxValid = false then faulted t .noPacket [] else answered t (.route .noRoute) []))

/-- R105, R26: a field the payload is long enough for reads as the value whose bytes stand there (`bytes_N`, in either byte
order), any other field as zero; blob flags and blob of an empty payload are zero and empty. -/
def Obligations.FieldExtraction : Prop :=
  ∀ (e : Endian) (p : Bytes) (off n : Nat),
    (off + n ≤ p.length → ∀ v, v < 256 ^ n →
        let le := (List.range n).map fun i => BitVec.ofNat 8 (v / 256 ^ i)
        (p.drop off).take n = (match e with | .le => le | .be => le.reverse) → fieldN e n p off = v)
      ∧ (p.length < off + n → fieldN e n p off = 0)
      ∧ (off + n ≤ p.length → fieldBytes p off n = (p.drop off).take n)
      ∧ (p.length < off + n → fieldBytes p off n = List.replicate n 0)
      ∧ blobFlags p = p.getD 0 0 ∧ blob p = p.drop 1

/-- R203: a request built on one block, encoded and decoded on a second with the same parameters, is held there. BUILD_RESPONSE
there gives none when the request was built with `re = 0`; with `re = 1` and a payload that fits a frame it gives the response
with the same seq and cmd, only IR set, and the payload of R182, and the response, encoded and pushed back, is the packet the
first block then holds. -/
def Obligations.PeerAnswersRequest : Prop :=
  ∀ (a a1 b : State) (k : Command) (re : Bool) (p : Packet) (f : Bytes), a.cfg.wf = true → b.cfg = a.cfg →
    exec (.buildRequest (a.cfg.code k) re) a = .next a1 → a1.out.val = .request p → FrameOf a.cfg p f →
    b.fault = .noFault → b.rc = 0 →
    ∃ b1, pushBytes f b = .next b1 ∧ b1.rxValid = true ∧ b1.rxPkt = p
      ∧ ∀ ans : HostAnswers, let pl := (responseData a.cfg ans p).1
          ∃ b2, exec .buildResponse { b1 with answers := ans } = .next b2
            ∧ (re = false → b2.out.status = .ok ∧ b2.out.val = .response none)
            ∧ (re = true → 8 + pl.length ≤ a.cfg.frameMax →
                let r : Packet := { seq := p.seq, flags := 1 <<< a.cfg.irBit.val, cmd := p.cmd, payload := pl }
                b2.out.status = .ok ∧ b2.out.val = .response (some r)
                  ∧ ∃ b3 b4 g, exec .encode (b2.offer r) = .next b3 ∧ exec .txFrame b3 = .next b4
                    ∧ b4.out.val = .frame g
                    ∧ (a1.rc = 0 → ∃ a2, pushBytes g a1 = .next a2 ∧ a2.rxValid = true ∧ a2.rxPkt = r))

/-! ### Faults -/

/-- R257: raising a fault writes `fault` and drives `status`, and no other register or output. -/
def Obligations.FaultEntryIsPrecise : Prop :=
  ∀ (i : Instr) (s t : State), s.fault = .noFault → exec i s = .next t → t.fault ≠ .noFault →
    ∃ asks, t = faulted s t.fault asks

/-- R250 to R256: each fault is raised only by the operations the table names for it, and only under its cause; a command as an
instruction (log entry 2) raises what the port operation of its action raises. `max_len = PMAX - 1` as 0 where PMAX is 0, in
the cause of CALLBACK_CONTRACT, is the model's reading (log entry 11). -/
def Obligations.FaultsHaveTheirRaisers : Prop :=
  ∀ (i : Instr) (s t : State), s.fault = .noFault → exec i s = .next t →
    let answers : Prop := s.rxValid = true ∧ s.rxPkt.flags.getLsbD s.cfg.reBit.val = true
    (t.fault = .frameOverflow →
        (i = .encode ∧ s.cfg.frameMax < 8 + s.data.packet.payload.length)
          ∨ (∃ k re, i = .buildRequest (s.cfg.code k) re ∧ (requestPayload k s).TooLong s.cfg)
          ∨ (i = .buildResponse ∧ answers
            ∧ (responsePayload (s.cfg.commandOf s.rxPkt.cmd) s.rxPkt s).TooLong s.cfg)
          ∨ (∃ k re, i = Command.instr k ∧ s.data.action = .request re ∧ (requestPayload k s).TooLong s.cfg)
          ∨ ∃ k, i = Command.instr k ∧ s.data.action = .response ∧ answers
            ∧ (responsePayload (some k) s.rxPkt s).TooLong s.cfg)
      ∧ (t.fault = .noPacket →
          s.rxValid = false
            ∧ (i = .buildResponse ∨ i = .onReceive
              ∨ ∃ k, i = Command.instr k ∧ (s.data.action = .response ∨ s.data.action = .receive)))
      ∧ (t.fault = .decodeOverrun → (∃ b, i = .pushByte b) ∧ s.rc.toNat = s.cfg.frameMax)
      ∧ (t.fault = .callbackContract →
          s.data.store = true
            ∧ (s.cfg.frameMax - 8 - 1 < s.answers.exportLen ∨ s.answers.exportData.length ≠ s.answers.exportLen)
            ∧ ((∃ re, i = .buildRequest (s.cfg.code .state) re) ∨ (i = .cmdState ∧ ∃ re, s.data.action = .request re)))
      ∧ (t.fault = .illegalOp → ∃ c re, i = .buildRequest c re ∧ ∀ k, s.cfg.code k ≠ c)

/-- R258: in the faulted state every operation but RESET and READ_STATUS, and every illegal port command word, changes no
register and reports the sticky fault; RESET and READ_STATUS act normally. -/
def Obligations.FaultedStateOnlyReports : Prop :=
  ∀ s : State, s.fault ≠ .noFault →
    (∀ i, i ≠ .reset → i ≠ .readStatus → exec i s = .next (reported s))
      ∧ exec .reset s = exec .reset { s with fault := .noFault }
      ∧ (∃ w0 w1, exec .readStatus s
            = .next { s with out := { status := .fault s.fault, val := .statusWords w0 w1, asks := [] } })
      ∧ ∀ (r : PortRequest) (rest : List PortRequest) (w : Word32), s.pending = r :: rest → r.code = .port w →
          IllegalWord w → step s = .next (reported { s with pending := rest, data := r.data, answers := r.answers })

/-- R259: RESET is the only way back to `fault = NONE`. -/
def Obligations.OnlyResetLeavesFault : Prop :=
  ∀ (i : Instr) (s t : State), s.fault ≠ .noFault → exec i s = .next t →
    (i ≠ .reset → t.fault = s.fault) ∧ (i = .reset → t.fault = .noFault)
end

