-- ==== Sys2Proof/Laws/Operands.lean ====
section
/-!
SUPPORT. The lengths of the operand forms, the fixed-length strings of a well-typed data channel, and the written-out form
of the 32-bit and 64-bit payload fields.
-/

namespace Sys2Proof.Machine

@[simp] theorem leBytes_length (n v : Nat) : (leBytes n v).length = n := by
  induction n generalizing v with
  | zero => rfl
  | succ n ih => simp [leBytes, ih]

@[simp] theorem bytesN_length (e : Endian) (n v : Nat) : (bytesN e n v).length = n := by
  cases e <;> simp [bytesN]

@[simp] theorem bytes32_length (cfg : Config) (v : Word32) : (bytes32 cfg v).length = 4 := by simp [bytes32]

@[simp] theorem bytes64_length (cfg : Config) (v : Word64) : (bytes64 cfg v).length = 8 := by simp [bytes64]

@[simp] theorem zeros_length (n : Nat) : (zeros n).length = n := by simp [zeros]

@[simp] theorem lane_length (n : Nat) (s : Bytes) : (lane n s).length = n := by simp [lane]

/-- A string of the right length is its own lane. -/
theorem lane_of_length (n : Nat) (s : Bytes) (h : s.length = n) : lane n s = s := by
  subst h; simp [lane]

theorem ofNat_div_eq_extract {w : Nat} (v : BitVec w) (k : Nat) : BitVec.ofNat 8 (v.toNat / 2 ^ k) = v.extractLsb' k 8 := by
  apply BitVec.eq_of_toNat_eq
  simp [BitVec.extractLsb'_toNat, Nat.shiftRight_eq_div_pow]

/-- `bytes_32` byte by byte. -/
theorem bytes32_eq (cfg : Config) (v : Word32) : bytes32 cfg v = u32Bytes cfg.endian v := by
  have h0 := ofNat_div_eq_extract v 0
  have h1 := ofNat_div_eq_extract v 8
  have h2 := ofNat_div_eq_extract v 16
  have h3 := ofNat_div_eq_extract v 24
  norm_num at h0 h1 h2 h3
  unfold bytes32 bytesN u32Bytes
  cases cfg.endian <;> simp [leBytes, Nat.div_div_eq_div_mul, h0, h1, h2, h3]

/-- `bytes_64` byte by byte. -/
theorem bytes64_eq (cfg : Config) (v : Word64) : bytes64 cfg v = u64Bytes cfg.endian v := by
  have h0 := ofNat_div_eq_extract v 0
  have h1 := ofNat_div_eq_extract v 8
  have h2 := ofNat_div_eq_extract v 16
  have h3 := ofNat_div_eq_extract v 24
  have h4 := ofNat_div_eq_extract v 32
  have h5 := ofNat_div_eq_extract v 40
  have h6 := ofNat_div_eq_extract v 48
  have h7 := ofNat_div_eq_extract v 56
  norm_num at h0 h1 h2 h3 h4 h5 h6 h7
  unfold bytes64 bytesN u64Bytes
  cases cfg.endian <;> simp [leBytes, Nat.div_div_eq_div_mul, h0, h1, h2, h3, h4, h5, h6, h7]

end Sys2Proof.Machine
end

