-- ==== Sys2Proof/Laws/Params.lean ====
section
/-!
SUPPORT. What legal parameters give: the bounds of FRAME_MAX, and the command of a command code.
-/

namespace Sys2Proof

open Machine

/-- What each check of `Config.wf` says. -/
theorem Config.wf_iff (cfg : Config) :
    cfg.wf = true ↔
      8 ≤ cfg.frameMax ∧ cfg.frameMax ≤ 255 ∧ cfg.cmdCodes.length = 15 ∧ cfg.cmdCodes.Nodup ∧ cfg.reBit ≠ cfg.irBit
        ∧ cfg.etBit ≠ cfg.storeBit ∧ cfg.etBit ≠ cfg.fetchBit ∧ cfg.storeBit ≠ cfg.fetchBit
        ∧ cfg.pingText.length ≤ cfg.pmax ∧ cfg.pongText.length ≤ cfg.pmax
        ∧ (8 ≤ cfg.logDataLen ∨ cfg.logIsText = BitVec.allOnes 256) := by
  simp only [Config.wf, Bool.and_eq_true, Bool.or_eq_true, decide_eq_true_eq, beq_iff_eq, bne_iff_ne, ne_eq, and_assoc]

theorem Command.index_lt (k : Command) : k.index < 15 := by cases k <;> decide

theorem Command.index_injective {j k : Command} (h : j.index = k.index) : j = k := by
  cases j <;> cases k <;> first | rfl | (simp [Command.index] at h)

/-- Legal codes are all different (R12). -/
theorem Config.code_injective (cfg : Config) (h : cfg.wf = true) {j k : Command} (e : cfg.code j = cfg.code k) : j = k := by
  have hw := (Config.wf_iff cfg).mp h
  have hl := hw.2.2.1
  have hn := hw.2.2.2.1
  have hj : j.index < cfg.cmdCodes.length := hl ▸ j.index_lt
  have hk : k.index < cfg.cmdCodes.length := hl ▸ k.index_lt
  unfold Config.code at e
  rw [List.getD_eq_getElem _ _ hj, List.getD_eq_getElem _ _ hk] at e
  exact Command.index_injective ((List.Nodup.getElem_inj_iff hn).mp e)

theorem Command.mem_all (k : Command) : k ∈ Command.all := by cases k <;> decide

/-- The code of a command selects that command (R90). -/
theorem Config.commandOf_code (cfg : Config) (h : cfg.wf = true) (k : Command) : cfg.commandOf (cfg.code k) = some k := by
  unfold Config.commandOf
  rcases hf : Command.all.find? (fun j => cfg.code j == cfg.code k) with _ | j
  · have := List.find?_eq_none.mp hf k k.mem_all
    simp at this
  · have := List.find?_some hf
    have e : cfg.code j = cfg.code k := by simpa using this
    rw [Config.code_injective cfg h e]

/-- A code that selects a command is that command's code. -/
theorem Config.code_of_commandOf (cfg : Config) (c : Byte) (k : Command) (h : cfg.commandOf c = some k) :
    cfg.code k = c := by
  simpa using List.find?_some h

end Sys2Proof
end

