-- ==== Sys2Proof/Laws/PerInstr.lean ====
section
/-!
SUPPORT. The per-instruction family `LegalEncoding`: the encoding of every instruction is legal in the words of the spec, a
port command word that is not illegal (30_encoding.md R111) or the code of a command of the catalog (R90).
-/

namespace Sys2Proof.Laws

open Machine

/-- A selection the spec calls legal, under the parameters. -/
abbrev LegalCode (cfg : Config) : Code → Prop
  | .port w => ¬ IllegalWord w
  | .command b => b ∈ Command.all.map cfg.code

/-- The encoding of `i` is legal under all parameters. -/
def LegalEncoding.Statement (i : Instr) : Prop := ∀ cfg : Config, LegalCode cfg (encode cfg i)

theorem legal_pushByte_word : ∀ b : Byte, ¬ IllegalWord (portWord 3 b false) := by decide
theorem legal_buildRequest_word : ∀ (c : Byte) (re : Bool), ¬ IllegalWord (portWord 4 c re) := by decide

theorem LegalEncoding.reset : LegalEncoding.Statement .reset :=
  fun _ => (by decide : ¬ IllegalWord (portWord 0 0 false))
theorem LegalEncoding.encode : LegalEncoding.Statement .encode :=
  fun _ => (by decide : ¬ IllegalWord (portWord 1 0 false))
theorem LegalEncoding.checksum : LegalEncoding.Statement .checksum :=
  fun _ => (by decide : ¬ IllegalWord (portWord 2 0 false))
theorem LegalEncoding.pushByte (b : Byte) : LegalEncoding.Statement (.pushByte b) := fun _ => legal_pushByte_word b
theorem LegalEncoding.buildRequest (c : Byte) (re : Bool) : LegalEncoding.Statement (.buildRequest c re) :=
  fun _ => legal_buildRequest_word c re
theorem LegalEncoding.buildResponse : LegalEncoding.Statement .buildResponse :=
  fun _ => (by decide : ¬ IllegalWord (portWord 5 0 false))
theorem LegalEncoding.onReceive : LegalEncoding.Statement .onReceive :=
  fun _ => (by decide : ¬ IllegalWord (portWord 6 0 false))
theorem LegalEncoding.txFrame : LegalEncoding.Statement .txFrame :=
  fun _ => (by decide : ¬ IllegalWord (portWord 7 0 false))
theorem LegalEncoding.readStatus : LegalEncoding.Statement .readStatus :=
  fun _ => (by decide : ¬ IllegalWord (portWord 8 0 false))
theorem LegalEncoding.cmdPing : LegalEncoding.Statement .cmdPing := fun _ => List.mem_map_of_mem (Command.mem_all .ping)
theorem LegalEncoding.cmdAuth : LegalEncoding.Statement .cmdAuth := fun _ => List.mem_map_of_mem (Command.mem_all .auth)
theorem LegalEncoding.cmdInfo : LegalEncoding.Statement .cmdInfo := fun _ => List.mem_map_of_mem (Command.mem_all .info)
theorem LegalEncoding.cmdConfig : LegalEncoding.Statement .cmdConfig :=
  fun _ => List.mem_map_of_mem (Command.mem_all .config)
theorem LegalEncoding.cmdState : LegalEncoding.Statement .cmdState := fun _ => List.mem_map_of_mem (Command.mem_all .state)
theorem LegalEncoding.cmdStatus : LegalEncoding.Statement .cmdStatus :=
  fun _ => List.mem_map_of_mem (Command.mem_all .status)
theorem LegalEncoding.cmdLog : LegalEncoding.Statement .cmdLog := fun _ => List.mem_map_of_mem (Command.mem_all .log)
theorem LegalEncoding.cmdTime : LegalEncoding.Statement .cmdTime := fun _ => List.mem_map_of_mem (Command.mem_all .time)
theorem LegalEncoding.cmdScheduleWakeup : LegalEncoding.Statement .cmdScheduleWakeup :=
  fun _ => List.mem_map_of_mem (Command.mem_all .scheduleWakeup)
theorem LegalEncoding.cmdNodeSleep : LegalEncoding.Statement .cmdNodeSleep :=
  fun _ => List.mem_map_of_mem (Command.mem_all .nodeSleep)
theorem LegalEncoding.cmdNodeAwake : LegalEncoding.Statement .cmdNodeAwake :=
  fun _ => List.mem_map_of_mem (Command.mem_all .nodeAwake)
theorem LegalEncoding.cmdOta : LegalEncoding.Statement .cmdOta := fun _ => List.mem_map_of_mem (Command.mem_all .ota)
theorem LegalEncoding.cmdVmcuOta : LegalEncoding.Statement .cmdVmcuOta :=
  fun _ => List.mem_map_of_mem (Command.mem_all .vmcuOta)
theorem LegalEncoding.cmdSetNodeProperties : LegalEncoding.Statement .cmdSetNodeProperties :=
  fun _ => List.mem_map_of_mem (Command.mem_all .setNodeProperties)
theorem LegalEncoding.cmdDebugBlink : LegalEncoding.Statement .cmdDebugBlink :=
  fun _ => List.mem_map_of_mem (Command.mem_all .debugBlink)

end Sys2Proof.Laws
end

