-- ==== Sys2Proof/Machine/Pseudo.lean ====
section
/-!
DEFINITION. The pseudo-instructions of the host notation (spec 30_encoding.md R112, R113): each expands to port operations,
and none is one itself. They belong to the host, so nothing here is part of `exec` or `step`.
-/

namespace Sys2Proof.Machine

/-- The pseudo-instructions of R113. -/
inductive Pseudo
  | push (bs : Bytes)
  | pushFrame (f : Bytes)
  | send (p : Packet)
  | wakeSync
  deriving DecidableEq, Repr

/-- A line of an expanded host program: an operation, or ENCODE of the packet that the line before it bound (R112). -/
inductive HostLine
  | issue (r : PortRequest)
  | encodeBound
  deriving DecidableEq, Repr

/-- An operation whose only operands are those of its port word. -/
def PortRequest.ofInstr (cfg : Config) (i : Instr) : PortRequest :=
  { code := encode cfg i, data := DataChannel.idle, answers := HostAnswers.idle }

/-- ENCODE of a packet value. -/
def PortRequest.encode (cfg : Config) (p : Packet) : PortRequest :=
  { PortRequest.ofInstr cfg .encode with data := { DataChannel.idle with packet := p } }

/-- The expansion of a pseudo-instruction (R113). The CONFIG and STATE requests of WAKE_SYNC are fetches: no blob, and
`store = 0`. -/
def Pseudo.expand (cfg : Config) : Pseudo → List HostLine
  | .push bs => bs.map fun b => .issue (PortRequest.ofInstr cfg (.pushByte b))
  | .pushFrame f => f.map fun b => .issue (PortRequest.ofInstr cfg (.pushByte b))
  | .send p => [.issue (PortRequest.encode cfg p), .issue (PortRequest.ofInstr cfg .txFrame)]
  | .wakeSync =>
    [Command.info, Command.config, Command.state].flatMap fun k =>
      [.issue (PortRequest.ofInstr cfg (.buildRequest (cfg.code k) true)), .encodeBound,
       .issue (PortRequest.ofInstr cfg .txFrame)]

/-- The packet an operation output, if it output one. -/
def PortOut.packet? (o : PortOut) : Option Packet :=
  match o.val with
  | .request p => some p
  | .response p => p
  | .push p _ => p
  | .nothing | .txLen _ | .check _ | .route _ | .frame _ | .statusWords _ _ => none

/-- The operation a line issues, given the outputs of the line before it. An ENCODE of a packet that the line before did not
output names nothing, and issues nothing: R113 does not say what SEND does then (DESIGN CHOICE, log entry 18). -/
def HostLine.request (cfg : Config) (o : PortOut) : HostLine → Option PortRequest
  | .issue r => some r
  | .encodeBound => o.packet?.map (PortRequest.encode cfg)

/-- Runs the lines of an expanded program one after another and collects the outputs of the operations it issued. A line that
issues nothing is passed over and the next one runs, so a WAKE_SYNC whose BUILD_REQUEST gave no packet skips that ENCODE and
still issues its TX_FRAME (DESIGN CHOICE, log entry 18). -/
def runLines : List HostLine → State → List PortOut → Host.Outcome (State × List PortOut) Fault Refusal
  | [], s, outs => .next (s, outs)
  | l :: ls, s, outs =>
    match l.request s.cfg s.out with
    | none => runLines ls s outs
    | some r =>
      match step { s with pending := r :: s.pending } with
      | .next t => runLines ls t (outs ++ [t.out])
      | .fault r => .fault r
      | .refused r => .refused r

/-- The result of PUSH and PUSHFRAME (R113): the last packet that is not none, or none. -/
def pushResult (outs : List PortOut) : Option Packet := (outs.filterMap PortOut.packet?).getLast?

end Sys2Proof.Machine
end

