-- ==== Sys2Proof/Tests/Slice0.lean ====
section
/-!
SUPPORT. The model's own tests: the well-formedness smoke test, the decoding of each row of the opcode table, worked examples
of the spec (its sections are named in the comments), and for each statement with hypotheses a state that meets them.
-/

namespace Sys2Proof.Tests

set_option Elab.async false

open Sys2Proof.Machine

/-! ### Helpers -/

/-- The next state of an outcome, and the reset state where there is none. -/
def after : Result → State
  | .next t => t
  | .fault _ => State.reset
  | .refused _ => State.reset

/-- The outcome is a next state. -/
def isNext : Result → Bool
  | .next _ => true
  | .fault _ => false
  | .refused _ => false

theorem eq_next_of_isNext (r : Result) (h : isNext r = true) : r = .next (after r) := by
  cases r <;> first | rfl | cases h

/-- One instruction from a state. -/
def run1 (i : Instr) (s : State) : State := after (exec i s)

/-- The bytes of a string pushed one after another. -/
def pushed (bs : Bytes) (s : State) : State := after (pushBytes bs s)

/-- The reset state with a held packet. -/
def holding (p : Packet) : State :=
  { State.reset with rxValid := true, rxPkt := p, dstate := .frameComplete, lastRxEvent := .frameOk }

/-- The reset state with `i` as the host's next operation. -/
def issuing (i : Instr) : State := { State.reset with pending := [PortRequest.ofInstr Config.default i] }

/-- The reset state under other parameters. -/
def under (cfg : Config) : State := State.initial cfg

/-- A command as an instruction in its request form, with the default parameters. -/
def asking (k : Command) (re : Bool) (s : State) : Packet :=
  match (run1 k.instr (s.act (.request re))).out.val with
  | .request p => p
  | _ => Packet.empty

def pingPacket : Packet := { seq := 0x00, flags := 0x01, cmd := 0x01, payload := [0x70, 0x69, 0x6E, 0x67] }

def pingFrame : Bytes := [0xE1, 0xF3, 0x0C, 0x14, 0x00, 0x04, 0x01, 0x01, 0x70, 0x69, 0x6E, 0x67]

/-- Parameters with a small frame, the literal length rule, SLIDE and BOTH. -/
def smallCfg : Config :=
  { Config.default with
    frameMax := 10, earlyLengthCheck := false, resync := .slide, magicCheck := .both, pingText := [], pongText := [] }

/-! ### Well-formedness: each check refuses an ill-formed term -/

theorem test_default_is_legal : Config.default.wf = true := by decide
theorem test_small_is_legal : smallCfg.wf = true := by decide
theorem test_frameMax_too_small : Config.wf { Config.default with frameMax := 7, pingText := [], pongText := [] } = false := by
  decide
theorem test_frameMax_too_large : Config.wf { Config.default with frameMax := 256 } = false := by decide
theorem test_codes_too_few : Config.wf { Config.default with cmdCodes := [1, 2, 3] } = false := by decide
theorem test_codes_repeated :
    Config.wf { Config.default with cmdCodes := [1, 1, 3, 4, 5, 6, 7, 8, 9, 10, 11, 12, 13, 14, 15] } = false := by decide
theorem test_header_flags_collide : Config.wf { Config.default with irBit := 0 } = false := by decide
theorem test_et_store_collide : Config.wf { Config.default with storeBit := 0 } = false := by decide
theorem test_et_fetch_collide : Config.wf { Config.default with fetchBit := 0 } = false := by decide
theorem test_store_fetch_collide : Config.wf { Config.default with fetchBit := 1 } = false := by decide
theorem test_ping_too_long : Config.wf { Config.default with pingText := List.replicate 121 0 } = false := by decide +kernel
theorem test_pong_too_long : Config.wf { Config.default with pongText := List.replicate 121 0 } = false := by decide +kernel
theorem test_log_too_short : Config.wf { Config.default with logDataLen := 7 } = false := by decide
theorem test_request_of_unknown_command : Instr.wf Config.default (.buildRequest 0x42 true) = false := by decide
theorem test_packet_too_long : Packet.wf { Packet.empty with payload := List.replicate 256 0 } = false := by decide +kernel
theorem test_operand_packet_too_long :
    DataChannel.wf { Config.default with ssidLen := 0, passLen := 0, logDataLen := 0 }
      { DataChannel.idle with packet := { Packet.empty with payload := List.replicate 256 0 } } = false := by decide +kernel
theorem test_ssid_wrong_length :
    DataChannel.wf { Config.default with passLen := 0, logDataLen := 0 } DataChannel.idle = false := by decide
theorem test_pass_wrong_length :
    DataChannel.wf { Config.default with ssidLen := 0, logDataLen := 0 } DataChannel.idle = false := by decide
theorem test_text_wrong_length :
    DataChannel.wf { Config.default with ssidLen := 0, passLen := 0 } DataChannel.idle = false := by decide

/-! ### Decoding: a word of each row, written out bit by bit from 30_encoding.md R111, and each command byte of R90 -/

theorem test_decode_reset : decodePort 0b00000000000000000000000000000000#32 = .ok .reset := by decide
theorem test_decode_encode : decodePort 0b00000000000000000000000000000001#32 = .ok .encode := by decide
theorem test_decode_checksum : decodePort 0b00000000000000000000000000000010#32 = .ok .checksum := by decide
theorem test_decode_pushByte : decodePort 0b00000000000000001110000100000011#32 = .ok (.pushByte 0xE1) := by decide
theorem test_decode_buildRequest : decodePort 0b00000000000000010000101100000100#32 = .ok (.buildRequest 0x0B true) := by
  decide
theorem test_decode_buildResponse : decodePort 0b00000000000000000000000000000101#32 = .ok .buildResponse := by decide
theorem test_decode_onReceive : decodePort 0b00000000000000000000000000000110#32 = .ok .onReceive := by decide
theorem test_decode_txFrame : decodePort 0b00000000000000000000000000000111#32 = .ok .txFrame := by decide
theorem test_decode_readStatus : decodePort 0b00000000000000000000000000001000#32 = .ok .readStatus := by decide
theorem test_decode_reserved_opsel : decodePort 0b00000000000000000000000000001001#32 = .error .reservedOpsel := by decide
theorem test_decode_reserved_bit : decodePort 0b10000000000000000000000000000000#32 = .error .reservedBit := by decide
theorem test_decode_unused_imm8 : decodePort 0b00000000000000000000000100000001#32 = .error .unusedImm8 := by decide
theorem test_decode_unused_re : decodePort 0b00000000000000010000000000000011#32 = .error .unusedRe := by decide
theorem test_decode_commands :
    ([0x01, 0x02, 0x03, 0x04, 0x05, 0x06, 0x07, 0x08, 0x09, 0x0A, 0x0B, 0x0C, 0x0D, 0x0E, 0x0F].map fun b =>
        decodeTableWord 8 b)
      = [some .cmdPing, some .cmdAuth, some .cmdInfo, some .cmdConfig, some .cmdState, some .cmdStatus, some .cmdLog,
         some .cmdTime, some .cmdScheduleWakeup, some .cmdNodeSleep, some .cmdNodeAwake, some .cmdOta, some .cmdVmcuOta,
         some .cmdSetNodeProperties, some .cmdDebugBlink] := by decide
theorem test_decode_uncatalogued : decodeTableWord 8 0x10 = none := by decide

/-! ### Steps -/

/-- 95_test_vectors.md 2.1: word 0x00010104 from reset. -/
theorem test_step_builds_ping :
    (after (step (State.reset.withFetchWord 32 0x00010104))).out.val = .request pingPacket := by decide +kernel
/-- The command byte 0x05 from reset is a STATE fetch (R189). -/
theorem test_step_runs_command_byte :
    (after (step (State.reset.withFetchWord 8 0x05))).out.val
      = .request { seq := 0x00, flags := 0x00, cmd := 0x05, payload := [0x04] } := by decide +kernel
/-- 95_test_vectors.md 2.1: RESET with bit 31 set. -/
theorem test_step_illegal_word :
    (after (step (State.reset.withFetchWord 32 0x80000000))).fault = .illegalOp := by decide +kernel
/-- Nothing issued, nothing moves (R8). -/
theorem test_step_idle : after (step State.reset) = State.reset := by decide +kernel

/-! ### Frame Codec (95_test_vectors.md 2.2, 2.3) -/

theorem test_encode_ping :
    (run1 .txFrame (run1 .encode (State.reset.offer pingPacket))).out.val = .frame pingFrame := by decide +kernel
theorem test_encode_overflow :
    (run1 .encode (State.reset.offer { Packet.empty with payload := List.replicate 121 0 })).out
      = { status := .fault .frameOverflow, val := .nothing, asks := [] } := by decide +kernel
theorem test_checksum_example :
    (run1 .checksum { State.reset with data := { DataChannel.idle with
        str := [0x00, 0x04, 0x01, 0x01, 0x70, 0x69, 0x6E, 0x67] } }).out.val = .check 0x14 := by decide +kernel
theorem test_txFrame_clears_pending :
    (run1 .txFrame (run1 .encode (State.reset.offer pingPacket))).txPending = false := by decide +kernel

/-! ### Decode State Machine (95_test_vectors.md 1.4, 1.5, 2.4) -/

theorem test_push_ping_frame :
    (pushed pingFrame State.reset).out.val = .push (some pingPacket) .frameOk := by decide +kernel
theorem test_push_swapped_checksum :
    (pushed (pingFrame.set 3 0x94) State.reset).lastRxEvent = .checksumErr := by decide +kernel
/-- SLIDE: a stale byte before the frame. -/
theorem test_slide_keeps_magic_a :
    (pushed (0x00 :: pingFrame) (under { Config.default with resync := .slide })).out.val
      = .push (some pingPacket) .frameOk := by decide +kernel
/-- BOTH: one wrong magic byte. -/
theorem test_both_accepts_bad_magic :
    (pushed (pingFrame.set 1 0xF2) (under { Config.default with magicCheck := .both })).out.val
      = .push (some pingPacket) .frameOk := by decide +kernel
/-- The literal length rule: length 6 is a LENGTH_ERR at the sixth byte. -/
theorem test_literal_length_six :
    (pushed [0xE1, 0xF3, 0x06, 0x00, 0x00, 0x00] (under { Config.default with earlyLengthCheck := false })).lastRxEvent
      = .lengthErr := by decide +kernel
/-- The literal length rule with FRAME_MAX = 10: length 3 never completes, and the eleventh byte overruns. -/
theorem test_literal_length_overrun :
    (pushed [0xE1, 0xF3, 0x03, 0, 0, 0, 0, 0, 0, 0, 0] (under smallCfg)).fault = .decodeOverrun := by decide +kernel

/-! ### Control (43_control.md R240, R242) -/

theorem test_reset_clears_fault :
    run1 .reset (run1 .onReceive State.reset) = State.reset := by decide +kernel
/-- R242's example: RESET, then `E1 F3 0C`. -/
theorem test_readStatus_example :
    (run1 .readStatus (pushed [0xE1, 0xF3, 0x0C] State.reset)).out.val = .statusWords 0x00000322 0 := by decide +kernel

/-! ### Command Dispatch Engine: the examples of 42_dispatch.md -/

theorem test_buildRequest_wraps :
    (run1 (.buildRequest 0x01 true) { State.reset with seqCtr := 0xFF }).seqCtr = 0x00 := by decide +kernel
theorem test_buildRequest_unknown : (run1 (.buildRequest 0x42 true) State.reset).fault = .illegalOp := by decide +kernel
theorem test_buildResponse_pong :
    (run1 .buildResponse (holding pingPacket)).out.val
      = .response (some { seq := 0x00, flags := 0x02, cmd := 0x01, payload := [0x70, 0x6F, 0x6E, 0x67] }) := by
  decide +kernel
theorem test_buildResponse_config_blob :
    (run1 .buildResponse { holding { seq := 0x10, flags := 0x01, cmd := 0x04, payload := [0x03, 0x7B, 0x7D] } with
        answers := { HostAnswers.idle with configBlob := [0x7B, 0x7D] } }).out.val
      = .response (some { seq := 0x10, flags := 0x02, cmd := 0x04, payload := [0x03, 0x7B, 0x7D] }) := by decide +kernel
theorem test_onReceive_applies_config :
    (run1 .onReceive { holding { seq := 0x10, flags := 0x01, cmd := 0x04, payload := [0x03, 0x7B, 0x7D] } with
        answers := { HostAnswers.idle with applyConfig := true } }).configured = true := by decide +kernel
theorem test_onReceive_asks :
    (run1 .onReceive (holding { seq := 0x10, flags := 0x01, cmd := 0x05, payload := [0x03, 0x53, 0x31] })).out
      = { status := .ok, val := .route .restoreState, asks := [.restoreState [0x53, 0x31] 2] } := by decide +kernel

/-- R183: the values of the output `route`. -/
theorem test_route_codes : [Route.noRoute, .applyConfig, .restoreState].map routeCode = [0, 1, 2] := by decide

theorem test_cmdPing : asking .ping true State.reset = pingPacket := by decide +kernel
theorem test_cmdAuth_is_padded :
    (asking .auth true { State.reset with data := { DataChannel.idle with ssid := [0x65, 0x31, 0x32] } }).payload.length
      = 96 := by decide +kernel
theorem test_cmdInfo :
    asking .info true State.reset = { seq := 0x00, flags := 0x01, cmd := 0x03, payload := [] } := by decide +kernel
theorem test_cmdConfig_store :
    (asking .config true { State.reset with data := { DataChannel.idle with blob := some [0x7B, 0x7D] } }).payload
      = [0x03, 0x7B, 0x7D] := by decide +kernel
theorem test_cmdState_contract :
    (run1 .cmdState { State.reset with data := { DataChannel.idle with store := true }, answers := { HostAnswers.idle with
        exportLen := 3, exportData := [0x78, 0x79] } }).fault = .callbackContract := by decide +kernel
theorem test_cmdStatus :
    asking .status true { State.reset with seqCtr := 5 } = { seq := 0x05, flags := 0x01, cmd := 0x06, payload := [] } := by
  decide +kernel
/-- The log arguments of 42_dispatch.md's LOG example: 1.5 as a float pattern, and -5. -/
def pairLog : LogArgs :=
  { logType := 1, status := 0, source := 2, sourceIndex := 0, timestamp := 1000, count := 7, text := [],
    fbits := 0x3FC00000, ival := -5 }

theorem test_cmdLog_pair :
    (asking .log false { State.reset with data := { DataChannel.idle with log := pairLog } }).payload
      = [0x01, 0x00, 0x02, 0x00, 0xE8, 0x03, 0x00, 0x00, 0x07, 0x00, 0x00, 0x00, 0x00, 0x00, 0xC0, 0x3F, 0xFB, 0xFF, 0xFF,
         0xFF, 0, 0, 0, 0, 0, 0, 0, 0] := by decide +kernel
theorem test_cmdTime_response :
    (run1 .cmdTime ({ holding { seq := 0x07, flags := 0x01, cmd := 0x08, payload := [] } with
        answers := { HostAnswers.idle with nowMs := 0x12345678 } }.act .response)).out.val
      = .response (some { seq := 0x07, flags := 0x02, cmd := 0x08, payload := [0x78, 0x56, 0x34, 0x12] }) := by
  decide +kernel
theorem test_cmdScheduleWakeup :
    (asking .scheduleWakeup false { State.reset with data := { DataChannel.idle with durationMs := 60000 } }).payload
      = [0x60, 0xEA, 0x00, 0x00] := by decide +kernel
theorem test_cmdNodeSleep :
    (asking .nodeSleep false { State.reset with data := { DataChannel.idle with deadlineMs := 5000 } }).payload
      = [0x88, 0x13, 0x00, 0x00] := by decide +kernel
theorem test_cmdNodeAwake :
    asking .nodeAwake false { State.reset with seqCtr := 9 } = { seq := 0x09, flags := 0x00, cmd := 0x0B, payload := [] } := by
  decide +kernel
theorem test_cmdOta :
    asking .ota true { State.reset with seqCtr := 10 } = { seq := 0x0A, flags := 0x01, cmd := 0x0C, payload := [] } := by
  decide +kernel
theorem test_cmdVmcuOta :
    asking .vmcuOta true { State.reset with seqCtr := 11 } = { seq := 0x0B, flags := 0x01, cmd := 0x0D, payload := [] } := by
  decide +kernel
theorem test_cmdSetNodeProperties :
    (asking .setNodeProperties true { State.reset with data := { DataChannel.idle with
        props := 5, aux := 0x1122334455667788 } }).payload
      = [0x05, 0x00, 0x00, 0x00, 0x88, 0x77, 0x66, 0x55, 0x44, 0x33, 0x22, 0x11] := by decide +kernel
theorem test_cmdDebugBlink :
    asking .debugBlink true { State.reset with seqCtr := 12 } = { seq := 0x0C, flags := 0x01, cmd := 0x0F, payload := [] } := by
  decide +kernel
/-- Big-endian payload fields (R64). -/
theorem test_big_endian_field : bytes32 { Config.default with endian := .be } 0x12345678 = [0x12, 0x34, 0x56, 0x78] := by
  decide +kernel

/-! ### The pseudo-instructions (95_test_vectors.md P6): the frames of WAKE_SYNC -/

/-- The frames among a list of outputs. -/
def framesOf (outs : List PortOut) : List Bytes :=
  outs.filterMap fun o =>
    match o.val with
    | .frame f => some f
    | _ => none

/-- The outputs of a run of host lines. -/
def outputsOf : Host.Outcome (State × List PortOut) Fault Refusal → List PortOut
  | .next (_, outs) => outs
  | .fault _ => []
  | .refused _ => []

theorem test_wakeSync_frames :
    framesOf (outputsOf (runLines (Pseudo.expand Config.default .wakeSync) State.reset []))
      = [[0xE1, 0xF3, 0x08, 0x02, 0x00, 0x00, 0x01, 0x03], [0xE1, 0xF3, 0x09, 0x01, 0x01, 0x01, 0x01, 0x04, 0x04],
         [0xE1, 0xF3, 0x09, 0x03, 0x02, 0x01, 0x01, 0x05, 0x04]] := by decide +kernel

/-! ### Witnesses: for each statement with hypotheses, a state and operands that meet them (each clause at a boundary) -/

/-- The reset state in the faulted state. -/
def faulty : State := { State.reset with fault := .noPacket }

/-- A PING request to issue. -/
def pingRequestLine : PortRequest := PortRequest.ofInstr Config.default (.buildRequest 0x01 true)

/-- A state with an ill-formed port command word issued. -/
def issuingWord (w : Word32) (f : FaultCode) : State :=
  { State.reset with fault := f, pending := [{ pingRequestLine with code := .port w }] }

/-- A packet with `n` zero payload bytes. -/
def packetOf (n : Nat) : Packet := { Packet.empty with payload := zeros n }

/-- Parameters under which AUTH is too long for a frame. -/
def narrowCfg : Config := { Config.default with frameMax := 103 }

/-- Parameters of the SLIDE decoder. -/
def slideCfg : Config := { Config.default with resync := .slide }

/-- Parameters of the tolerant magic comparison. -/
def bothCfg : Config := { Config.default with magicCheck := .both }

/-- Parameters of the literal length rule. -/
def literalCfg : Config := { Config.default with earlyLengthCheck := false }

/-- An instruction goes on from a state when its outcome is seen to be a next state. -/
theorem goes_on (i : Instr) (s : State) (h : isNext (exec i s) = true) : exec i s = .next (run1 i s) :=
  eq_next_of_isNext _ h

theorem frameOf_ping (cfg : Config)
    (h : isNext (exec .encode ((under cfg).offer pingPacket)) = true
      ∧ (run1 .encode ((under cfg).offer pingPacket)).out.status = .ok
      ∧ isNext (exec .txFrame (run1 .encode ((under cfg).offer pingPacket))) = true
      ∧ (run1 .txFrame (run1 .encode ((under cfg).offer pingPacket))).out
          = { status := .ok, val := .frame pingFrame, asks := [] }) :
    FrameOf cfg pingPacket pingFrame :=
  ⟨under cfg, run1 .encode ((under cfg).offer pingPacket), run1 .txFrame (run1 .encode ((under cfg).offer pingPacket)),
    rfl, goes_on _ _ h.1, h.2.1, goes_on _ _ h.2.2.1, h.2.2.2⟩

theorem frameOf_default : FrameOf Config.default pingPacket pingFrame := frameOf_ping _ (by decide +kernel)
theorem frameOf_slide : FrameOf slideCfg pingPacket pingFrame := frameOf_ping _ (by decide +kernel)
theorem frameOf_both : FrameOf bothCfg pingPacket pingFrame := frameOf_ping _ (by decide +kernel)

theorem witness_StepPerformsIssuedInstruction :
    (issuing (.pushByte 0xE1)).pending = [PortRequest.ofInstr Config.default (.pushByte 0xE1)]
      ∧ decode Config.default (PortRequest.ofInstr Config.default (.pushByte 0xE1)).code = .ok (.pushByte 0xE1)
      ∧ State.reset.pending = [] := by decide

theorem witness_IllegalOpRaised :
    IllegalWord 0x00000009 ∧ IllegalWord 0x00020104 ∧ IllegalWord 0x00000101 ∧ IllegalWord 0x00010003
      ∧ (issuingWord 0x00000009 .noFault).fault = .noFault ∧ (issuingWord 0x00000009 .noPacket).fault ≠ .noFault
      ∧ (∀ k ∈ Command.all, Config.default.code k ≠ 0x00) := by decide

theorem witness_DecodeOfEncode : smallCfg.wf = true ∧ smallCfg ≠ Config.default := by decide

theorem witness_EncodeOfDecode :
    decode Config.default (.port 0x00010104) = .ok (.buildRequest 0x01 true)
      ∧ decode Config.default (.command 0x0F) = .ok .cmdDebugBlink := by decide

theorem witness_InvariantHoldsAtReset : smallCfg.wf = true ∧ Config.default.wf = true := by decide

/-- Mid-frame, with an untaken encoded frame and an operation still to issue. -/
def busy : State :=
  { pushed (pingFrame.take 9) (run1 .encode (State.reset.offer pingPacket)) with pending := [pingRequestLine] }

theorem witness_StepKeepsInvariant : busy.Inv ∧ isNext (step busy) = true ∧ busy.rc = 9 ∧ busy.txPending = true := by
  decide +kernel

theorem witness_NoRunStops :
    busy.Inv ∧ Reachable Config.default { State.initial Config.default with pending := [pingRequestLine] }
      ∧ Config.default.wf = true :=
  ⟨by decide +kernel, .start _, by decide⟩

theorem witness_RegistersHaveTheirWriters :
    exec (.buildRequest 0x01 true) busy = .next (run1 (.buildRequest 0x01 true) busy)
      ∧ (run1 (.buildRequest 0x01 true) busy).seqCtr ≠ busy.seqCtr :=
  ⟨goes_on _ _ (by decide +kernel), by decide +kernel⟩

theorem witness_UnreadStateIsUnobservable :
    SameObservable { State.reset with pending := [pingRequestLine] }
      { State.reset with pending := [pingRequestLine], rxBuf := [(3, 0x55)], txBuf := [(0, 0x66)], rxPkt := pingPacket } where
  rest := by decide
  rx := fun a h => absurd h (Nat.not_lt_zero a)
  tx := fun a h => absurd h (Nat.not_lt_zero a)
  pkt := fun h => absurd h (by decide)

theorem witness_TxFrameHandsOverFrame :
    faulty.fault ≠ .noFault ∧ ({ State.reset with txLen := 128 } : State).fault = .noFault
      ∧ ({ State.reset with txLen := 128 } : State).txLen.toNat ≤ Config.default.frameMax := by decide

theorem witness_ReadStatusReturnsTheWords : (holding (packetOf 255)).rxPkt.payload.length ≤ 255 := by decide +kernel

theorem witness_ChkIsRunningXor : ([0x01, 0x02] : Bytes).Perm [0x02, 0x01] := by decide

theorem witness_ChecksumLaws :
    0 < ([0x01, 0x02] : Bytes).length ∧ 1 < ([0x01, 0x02] : Bytes).length ∧ 0 ≠ 1 := by decide

theorem witness_EncodeWritesTheFrame :
    faulty.fault ≠ .noFault ∧ State.reset.fault = .noFault
      ∧ Config.default.frameMax < 8 + (State.reset.offer (packetOf 121)).data.packet.payload.length
      ∧ 8 + (State.reset.offer (packetOf 120)).data.packet.payload.length ≤ Config.default.frameMax := by decide +kernel

theorem witness_ChecksumOutputsChk : faulty.fault ≠ .noFault ∧ State.reset.fault = .noFault := by decide

theorem witness_PushByteRefinesListDecoder :
    (pushed pingFrame State.reset).fault = .noFault ∧ (pushed pingFrame State.reset).rc.toNat < Config.default.frameMax
      ∧ busy.fault = .noFault ∧ busy.rc.toNat < Config.default.frameMax ∧ Config.default.frameMax ≤ 255 := by
  decide +kernel

theorem witness_PushByteInProgress :
    let at3 := pushed (pingFrame.take 3) State.reset
    let at4 := pushed (pingFrame.take 4) State.reset
    State.reset.rc.toNat = 0 ∧ at3.rc.toNat = 3 ∧ at3.fault = .noFault ∧ at4.rc.toNat = 4 ∧ at4.fault = .noFault
      ∧ at4.rc.toNat + 1 ≠ (Memory.read at4.rxBuf 2).toNat ∧ at4.rc.toNat < at4.cfg.frameMax := by decide +kernel

theorem witness_MagicPairDecides :
    let first := pushed [0xE1] State.reset
    let stale := pushed [0x00] (under slideCfg)
    let stale2 := pushed [0x00] (under bothCfg)
    first.rc.toNat = 1 ∧ first.fault = .noFault ∧ 2 ≤ first.cfg.frameMax ∧ Memory.read first.rxBuf 0 = 0xE1
      ∧ first.cfg.magicK ^^^ first.cfg.magicA = 0xF3 ∧ first.cfg.resync = .pair
      ∧ stale.rc.toNat = 1 ∧ stale.fault = .noFault ∧ stale.cfg.resync = .slide ∧ stale.cfg.magicCheck = .any
      ∧ Memory.read stale.rxBuf 0 ≠ stale.cfg.magicA
      ∧ stale2.rc.toNat = 1 ∧ stale2.fault = .noFault ∧ stale2.cfg.magicCheck = .both
      ∧ Memory.read stale2.rxBuf 0 ≠ stale2.cfg.magicA := by decide +kernel

theorem witness_LengthByteDecides :
    let two := pushed [0xE1, 0xF3] State.reset
    two.rc.toNat = 2 ∧ two.fault = .noFault ∧ 3 ≤ two.cfg.frameMax ∧ two.cfg.earlyLengthCheck = true
      ∧ (7#8).toNat < 8 ∧ two.cfg.frameMax < (129#8).toNat ∧ ¬ (8#8).toNat < 8 ∧ ¬ two.cfg.frameMax < (128#8).toNat := by
  decide +kernel

theorem witness_CompletionValidatesFrame :
    let good := pushed (pingFrame.take 11) State.reset
    let short := pushed [0xE1, 0xF3, 0x05, 0x00] (under literalCfg)
    let f := good.held ++ [0x67]
    let g := good.held ++ [0x66]
    (good.rc.toNat = 11 ∧ good.fault = .noFault ∧ good.rc.toNat + 1 = (Memory.read good.rxBuf 2).toNat
        ∧ f.length = 8 + (f.getD 5 0).toNat ∧ chk good.cfg (f.drop 4) = f.getD 3 0
        ∧ g.length = 8 + (g.getD 5 0).toNat ∧ chk good.cfg (g.drop 4) ≠ g.getD 3 0)
      ∧ short.rc.toNat = 4 ∧ short.fault = .noFault ∧ short.rc.toNat + 1 = (Memory.read short.rxBuf 2).toNat
      ∧ (short.held ++ [0x00]).length < 8 := by decide +kernel

theorem witness_PushByteOverrun :
    let full := pushed [0xE1, 0xF3, 0x03, 0, 0, 0, 0, 0, 0, 0] (under smallCfg)
    full.fault = .noFault ∧ full.rc.toNat = full.cfg.frameMax := by decide +kernel

theorem witness_LengthRuleGovernsOverrun :
    let two := pushed [0xE1, 0xF3] (under smallCfg)
    (busy.Inv ∧ busy.cfg.earlyLengthCheck = true ∧ busy.fault = .noFault)
      ∧ (two.cfg.wf = true ∧ two.cfg.earlyLengthCheck = false ∧ two.fault = .noFault ∧ two.rc.toNat = 2
        ∧ (4#8).toNat ≤ 4 ∧ two.cfg.frameMax < (11#8).toNat ∧ (zeros 7).length = two.cfg.frameMax - 3)
      ∧ 5 ≤ (5#8).toNat ∧ (7#8).toNat ≤ 7 ∧ (zeros 2).length = (5#8).toNat - 3 ∧ (zeros 4).length = (7#8).toNat - 3 := by
  decide +kernel

theorem witness_DecodeOfEncodedFrame :
    Config.default.wf = true ∧ FrameOf Config.default pingPacket pingFrame ∧ State.reset.fault = .noFault
      ∧ State.reset.rc = 0 :=
  ⟨by decide, frameOf_default, by decide, by decide⟩

theorem witness_OneCorruptedByteIsDetected :
    FrameOf Config.default pingPacket pingFrame ∧ Config.default.wf = true ∧ Config.default.magicCheck = .any
      ∧ Config.default.earlyLengthCheck = true ∧ 11 < pingFrame.length ∧ (0x01 : Byte) ≠ 0 ∧ State.reset.rc = 0
      ∧ State.reset.fault = .noFault
      ∧ ((pingFrame.set 2 (0x0C ^^^ 0x0B)).getD 2 0).toNat = 7 ∧ ((pingFrame.set 2 (0x0C ^^^ 0x04)).getD 2 0).toNat = 8
      ∧ ((pingFrame.set 2 (0x0C ^^^ 0x8C)).getD 2 0).toNat = 128 ∧ 128 ≤ (pingFrame ++ zeros 116).length
      ∧ ((pingFrame.set 2 (0x0C ^^^ 0x8D)).getD 2 0).toNat = 129 :=
  ⟨frameOf_default, by decide +kernel⟩

theorem witness_BothAcceptsOneBadMagicByte :
    bothCfg.wf = true ∧ bothCfg.magicCheck = .both ∧ FrameOf bothCfg pingPacket pingFrame ∧ (under bothCfg).rc = 0
      ∧ (under bothCfg).fault = .noFault ∧ 1 < 2 :=
  ⟨by decide, by decide, frameOf_both, by decide, by decide, by decide⟩

theorem witness_PairResynchronises :
    let s := pushed [0x00] State.reset
    let g : Bytes := [0xE1, 0xF3, 0xE1]
    FrameOf Config.default pingPacket pingFrame ∧ s.cfg = Config.default ∧ s.cfg.resync = .pair ∧ s.fault = .noFault
      ∧ s.rc.toNat = 1 ∧ (s.held ++ g).length % 2 = 0
      ∧ ∀ i < 2, magicOk s.cfg ((s.held ++ g).getD (2 * i) 0) ((s.held ++ g).getD (2 * i + 1) 0) = false :=
  ⟨frameOf_default, by decide +kernel⟩

theorem witness_SlideResynchronises :
    let s := under slideCfg
    let g : Bytes := [0x00, 0xE1, 0xE1]
    FrameOf slideCfg pingPacket pingFrame ∧ s.cfg = slideCfg ∧ s.cfg.wf = true ∧ s.cfg.resync = .slide
      ∧ s.cfg.magicCheck = .any ∧ s.cfg.magicA ≠ s.cfg.magicB ∧ s.fault = .noFault ∧ s.rc = 0
      ∧ ∀ i < 2, ¬(g.getD i 0 = s.cfg.magicA ∧ g.getD (i + 1) 0 = s.cfg.magicB) :=
  ⟨frameOf_slide, by decide +kernel⟩

theorem witness_DecoderForgets :
    let s := pushed pingFrame (run1 (.buildRequest 0x01 true) State.reset)
    s.cfg.wf = true ∧ s.fault = .noFault ∧ s.rc = 0 ∧ pingFrame ≠ [] ∧ s.rxValid = true
      ∧ isNext (exec .reset s) = true := by decide +kernel

theorem witness_PadByteRealigns :
    let s := pushed [0x00] State.reset
    s.fault = .noFault ∧ s.rc.toNat = 1 ∧ 2 ≤ s.cfg.frameMax ∧ s.cfg.resync = .pair
      ∧ (0x00 : Byte) ≠ s.cfg.magicK ^^^ s.cfg.magicA ∧ s.cfg.magicCheck = .any := by decide +kernel

theorem witness_RequestsWithoutPayload :
    Config.default.wf = true ∧ (State.reset.act (.request true)).fault = .noFault
      ∧ (State.reset.act (.request true)).data.action = .request true := by decide

theorem witness_PingRequest :
    (State.reset.act (.request false)).cfg.wf = true ∧ (State.reset.act (.request false)).fault = .noFault
      ∧ (State.reset.act (.request false)).data.action = .request false := by decide

/-- The reset state under `cfg` with the fixed-length operands of AUTH on the data channel. -/
def authState (cfg : Config) : State :=
  { under cfg with data := { DataChannel.idle with ssid := zeros cfg.ssidLen, pass := zeros cfg.passLen } }

theorem witness_AuthRequest :
    (authState Config.default).data.ssid.length = Config.default.ssidLen
      ∧ (authState Config.default).data.pass.length = Config.default.passLen
      ∧ 8 + (Config.default.ssidLen + Config.default.passLen) ≤ Config.default.frameMax
      ∧ narrowCfg.wf = true ∧ (authState narrowCfg).data.ssid.length = narrowCfg.ssidLen
      ∧ (authState narrowCfg).data.pass.length = narrowCfg.passLen
      ∧ ¬ 8 + (narrowCfg.ssidLen + narrowCfg.passLen) ≤ narrowCfg.frameMax := by decide +kernel

/-- Parameters with the smallest frame. -/
def tinyCfg : Config := { smallCfg with frameMax := 8 }

theorem witness_ConfigRequest :
    State.reset.fault = .noFault ∧ State.reset.cfg.wf = true ∧ tinyCfg.wf = true
      ∧ State.reset.data.blob = none ∧ 8 + (0x03 :: zeros 119).length ≤ Config.default.frameMax
      ∧ ¬ 8 + (0x03 :: zeros 120).length ≤ Config.default.frameMax := by decide +kernel

theorem witness_StateRequest :
    let s : State := { State.reset with data := { DataChannel.idle with store := true }, answers :=
      { HostAnswers.idle with exportLen := 119, exportData := zeros 119 } }
    s.cfg.wf = true ∧ s.fault = .noFault ∧ s.data.store = true
      ∧ s.answers.exportLen ≤ s.cfg.frameMax - 8 - 1 ∧ s.answers.exportData.length = s.answers.exportLen
      ∧ ¬ (120 : Nat) ≤ s.cfg.frameMax - 8 - 1 ∧ State.reset.data.store = false := by decide +kernel

theorem witness_LogRequest :
    let s : State := { State.reset with data := { DataChannel.idle with log := { pairLog with logType := 0, text := zeros 16 } } }
    s.cfg.wf = true ∧ s.fault = .noFault ∧ 20 + s.cfg.logDataLen ≤ s.cfg.frameMax
      ∧ s.cfg.logIsText.getLsbD s.data.log.logType.toNat = true ∧ s.data.log.text.length = s.cfg.logDataLen
      ∧ Config.default.logIsText.getLsbD pairLog.logType.toNat = false := by decide +kernel

theorem witness_MillisecondRequests :
    State.reset.cfg.wf = true ∧ 12 ≤ State.reset.cfg.frameMax ∧ State.reset.fault = .noFault
      ∧ State.reset.data.action = .request false ∧ ¬ 12 ≤ (under tinyCfg).cfg.frameMax := by decide

theorem witness_SetNodePropertiesRequest :
    State.reset.cfg.wf = true ∧ 20 ≤ State.reset.cfg.frameMax ∧ State.reset.fault = .noFault
      ∧ State.reset.data.action = .request false ∧ ¬ 20 ≤ (under tinyCfg).cfg.frameMax := by decide

theorem witness_SequenceAllocation :
    let s : State := { State.reset with seqCtr := 0xFF }
    (exec (.buildRequest 0x01 true) s = .next (run1 (.buildRequest 0x01 true) s)
        ∧ (run1 (.buildRequest 0x01 true) s).fault = .noFault)
      ∧ exec (.buildRequest 0x42 true) s = .next (run1 (.buildRequest 0x42 true) s)
      ∧ (run1 (.buildRequest 0x42 true) s).fault ≠ .noFault
      ∧ exec .encode s = .next (run1 .encode s) :=
  ⟨⟨goes_on _ _ (by decide +kernel), by decide +kernel⟩, goes_on _ _ (by decide +kernel), by decide +kernel,
    goes_on _ _ (by decide +kernel)⟩

/-- Two requests to issue, with an ENCODE between them. -/
def twoRequests : State :=
  { State.reset with
    seqCtr := 0xFF, pending := [pingRequestLine, PortRequest.encode Config.default pingPacket, pingRequestLine] }

theorem witness_SequenceNumbersAreConsecutive :
    (∀ r ∈ twoRequests.pending, decode twoRequests.cfg r.code ≠ .ok .reset)
      ∧ requestSeqs 3 twoRequests = [0xFF, 0x00] := by decide +kernel

theorem witness_BuildResponseAnswers :
    let quiet := holding { pingPacket with flags := 0x00 }
    let full : State := { holding { pingPacket with cmd := 0x04 } with
      answers := { HostAnswers.idle with configBlob := zeros 120 } }
    State.reset.cfg.wf = true ∧ faulty.fault ≠ .noFault ∧ State.reset.rxValid = false
      ∧ (holding pingPacket).rxValid = true ∧ pingPacket.flags.getLsbD 0 = true
      ∧ quiet.rxValid = true ∧ quiet.rxPkt.flags.getLsbD 0 = false
      ∧ (full.fault = .noFault ∧ full.rxPkt.cmd = full.cfg.code .config
        ∧ full.cfg.frameMax < 8 + (1 + full.answers.configBlob.length)) := by decide +kernel

theorem witness_OnReceiveRoutes :
    faulty.fault ≠ .noFault ∧ State.reset.rxValid = false ∧ (holding pingPacket).rxValid = true
      ∧ (holding { pingPacket with cmd := 0x04, payload := [0x01] }).rxPkt.cmd = Config.default.code .config
      ∧ (holding { pingPacket with cmd := 0x05, payload := [0x03] }).rxPkt.cmd = Config.default.code .state
      ∧ (0x03 : Byte).getLsbD 0 = true ∧ (0x03 : Byte).getLsbD 1 = true ∧ (0x01 : Byte).getLsbD 1 = false := by decide

theorem witness_DispatchTouchesNoCodecOrDecoderState :
    dispatchInstr (.buildRequest 0x01 true) = true
      ∧ exec (.buildRequest 0x01 true) busy = .next (run1 (.buildRequest 0x01 true) busy) :=
  ⟨by decide, goes_on _ _ (by decide +kernel)⟩

theorem witness_CommandRunsItsPortOperation :
    let s := (holding pingPacket).act .response
    let r := (holding pingPacket).act .receive
    let q := (holding pingPacket).act (.request true)
    let other := (holding { pingPacket with cmd := 0x04 }).act .response
    s.cfg.wf = true ∧ s.rxPkt.cmd = s.cfg.code .ping ∧ s.data.action = .response ∧ r.rxPkt.cmd = r.cfg.code .ping
      ∧ r.data.action = .receive ∧ q.data.action = .request true
      ∧ other.rxPkt.cmd ≠ other.cfg.code .ping ∧ other.data.action = .response := by decide

/-- A state with the command byte 0x10, of no command, issued with an action. -/
def issuingByte (a : CmdAction) (s : State) : State :=
  { s with pending := [{ pingRequestLine with code := .command 0x10, data := { DataChannel.idle with action := a } }] }

theorem witness_UncataloguedCommandByte :
    (issuingByte .response (holding pingPacket)).pending
        = [{ pingRequestLine with code := .command 0x10, data := { DataChannel.idle with action := .response } }]
      ∧ (∀ k ∈ Command.all, Config.default.code k ≠ 0x10) ∧ faulty.fault ≠ .noFault
      ∧ (holding pingPacket).rxValid = true ∧ State.reset.rxValid = false
      ∧ (after (step (issuingByte (.request true) State.reset))).fault = .illegalOp
      ∧ (after (step (issuingByte .receive (holding pingPacket)))).out.val = .route .noRoute := by decide +kernel

theorem witness_FieldExtraction :
    let le : Bytes := (List.range 4).map fun i => BitVec.ofNat 8 (0x12345678 / 256 ^ i)
    le = [0x78, 0x56, 0x34, 0x12] ∧ (([0xAA, 0x78, 0x56, 0x34, 0x12] : Bytes).drop 1).take 4 = le
      ∧ (([0xAA, 0x12, 0x34, 0x56, 0x78] : Bytes).drop 1).take 4 = le.reverse ∧ 0x12345678 < 256 ^ 4
      ∧ 1 + 4 ≤ ([0xAA, 0x78, 0x56, 0x34, 0x12] : Bytes).length ∧ ([0xAA, 0xBB, 0xCC, 0xDD] : Bytes).length < 1 + 4 := by
  decide

theorem witness_PeerAnswersRequest :
    let a1 := run1 (.buildRequest (Config.default.code .ping) true) State.reset
    exec (.buildRequest (Config.default.code .ping) true) State.reset = .next a1 ∧ a1.out.val = .request pingPacket
      ∧ FrameOf Config.default pingPacket pingFrame ∧ State.reset.fault = .noFault ∧ State.reset.rc = 0 ∧ a1.rc = 0
      ∧ 8 + (responseData Config.default HostAnswers.idle pingPacket).1.length ≤ Config.default.frameMax :=
  ⟨goes_on _ _ (by decide +kernel), by decide +kernel, frameOf_default, by decide, by decide, by decide +kernel,
    by decide +kernel⟩

theorem witness_FaultEntryIsPrecise :
    State.reset.fault = .noFault ∧ exec .onReceive State.reset = .next (run1 .onReceive State.reset)
      ∧ (run1 .onReceive State.reset).fault = .noPacket :=
  ⟨by decide, goes_on _ _ (by decide +kernel), by decide +kernel⟩

theorem witness_FaultsHaveTheirRaisers :
    let broken : State := { State.reset with data := { DataChannel.idle with store := true }, answers :=
      { HostAnswers.idle with exportLen := 120, exportData := zeros 120 } }
    let full := pushed [0xE1, 0xF3, 0x03, 0, 0, 0, 0, 0, 0, 0] (under smallCfg)
    let long : State := { State.reset with data := { DataChannel.idle with blob := some (zeros 120) } }
    let wide : State := { holding { pingPacket with cmd := 0x04 } with
      answers := { HostAnswers.idle with configBlob := zeros 120 } }
    (run1 .encode (State.reset.offer (packetOf 121))).fault = .frameOverflow
      ∧ (run1 (.buildRequest 0x04 true) long).fault = .frameOverflow ∧ (run1 .cmdConfig long).fault = .frameOverflow
      ∧ (run1 .buildResponse wide).fault = .frameOverflow
      ∧ (run1 .cmdConfig (wide.act .response)).fault = .frameOverflow
      ∧ (run1 .buildResponse State.reset).fault = .noPacket ∧ (run1 (.pushByte 0x00) full).fault = .decodeOverrun
      ∧ (run1 (.buildRequest 0x05 true) broken).fault = .callbackContract
      ∧ (run1 (.buildRequest 0x10 true) State.reset).fault = .illegalOp := by decide +kernel

theorem witness_FaultedStateOnlyReports :
    (issuingWord 0x00000009 .noPacket).fault ≠ .noFault ∧ IllegalWord 0x00000009
      ∧ (issuingWord 0x00000009 .noPacket).pending = [{ pingRequestLine with code := .port 0x00000009 }]
      ∧ Instr.txFrame ≠ .reset ∧ Instr.txFrame ≠ .readStatus := by decide

theorem witness_OnlyResetLeavesFault :
    faulty.fault ≠ .noFault ∧ exec .encode faulty = .next (run1 .encode faulty)
      ∧ exec .reset faulty = .next (run1 .reset faulty) :=
  ⟨by decide, goes_on _ _ (by decide +kernel), goes_on _ _ (by decide +kernel)⟩

end Sys2Proof.Tests
end

section
/-!
PROOFS. The scope of one step (spec 00_scope.md): what a step does with the operation the host issues next.
-/

namespace Sys2Proof.Machine

/-- R7: an issued selection that decodes is performed on the state with its operation latched onto the port. -/
theorem step_of_decode_ok {s : State} {r : PortRequest} {rest : List PortRequest} {i : Instr}
    (hp : s.pending = r :: rest) (hd : decode s.cfg r.code = .ok i) : step s = exec i (s.latch r rest) := by
  obtain ⟨hnone, -⟩ | ⟨r', rest', i', hp', hd', hstep⟩ | ⟨r', rest', e, hp', hd', -⟩ := step_cases s
  · simp [hp] at hnone
  · obtain ⟨rfl, rfl⟩ := List.cons.inj (hp.symm.trans hp')
    obtain rfl := Except.ok.inj (hd.symm.trans hd')
    exact hstep
  · obtain ⟨rfl, rfl⟩ := List.cons.inj (hp.symm.trans hp')
    simp [hd] at hd'

/-- R8: only the host's operations move the block. -/
theorem step_of_pending_nil {s : State} (hp : s.pending = []) : step s = .next s := by
  obtain ⟨-, hstep⟩ | ⟨r, rest, i, hp', -⟩ | ⟨r, rest, e, hp', -⟩ := step_cases s
  · exact hstep
  · simp [hp] at hp'
  · simp [hp] at hp'

/-- Settles O1: the issued and the idle case of `step_cases`; `State.latch` is the state update the statement writes out. -/
theorem stepPerformsIssuedInstruction : Obligations.StepPerformsIssuedInstruction :=
  ⟨fun _ _ _ _ hp hd => step_of_decode_ok hp hd, fun _ hp => step_of_pending_nil hp⟩

end Sys2Proof.Machine
end

section
/-!
PROOFS. What an instruction can do to the state (spec 10_state.md sections 1 to 5): one inversion lemma for `exec`, from
which the invariant and the writers of each register follow.
-/

namespace Sys2Proof

open Machine

/-- The two kinds of instruction: the nine port operations (R111) and a command of the catalog (R90). -/
theorem Instr.port_or_command {motive : Instr → Prop} (reset : motive .reset) (encode : motive .encode)
    (checksum : motive .checksum) (pushByte : ∀ b, motive (.pushByte b)) (buildRequest : ∀ c re, motive (.buildRequest c re))
    (buildResponse : motive .buildResponse) (onReceive : motive .onReceive) (txFrame : motive .txFrame)
    (readStatus : motive .readStatus) (command : ∀ k : Command, motive k.instr) (i : Instr) : motive i := by
  cases i with
  | reset => exact reset
  | encode => exact encode
  | checksum => exact checksum
  | pushByte b => exact pushByte b
  | buildRequest c re => exact buildRequest c re
  | buildResponse => exact buildResponse
  | onReceive => exact onReceive
  | txFrame => exact txFrame
  | readStatus => exact readStatus
  | cmdPing => exact command .ping
  | cmdAuth => exact command .auth
  | cmdInfo => exact command .info
  | cmdConfig => exact command .config
  | cmdState => exact command .state
  | cmdStatus => exact command .status
  | cmdLog => exact command .log
  | cmdTime => exact command .time
  | cmdScheduleWakeup => exact command .scheduleWakeup
  | cmdNodeSleep => exact command .nodeSleep
  | cmdNodeAwake => exact command .nodeAwake
  | cmdOta => exact command .ota
  | cmdVmcuOta => exact command .vmcuOta
  | cmdSetNodeProperties => exact command .setNodeProperties
  | cmdDebugBlink => exact command .debugBlink

namespace Machine

/-! ### Operations that leave the transmit and the decoder registers alone -/

/-- What an operation can write that leaves the transmit and the decoder registers alone: `seq_ctr` only where `counts`,
`configured` only where `configures`, a fresh fault other than DECODE_OVERRUN only where `raises`, and the outputs. -/
structure EngineEffect (counts configures raises : Prop) (s t : State) : Prop where
  frame : t = { s with seqCtr := t.seqCtr, configured := t.configured, fault := t.fault, out := t.out }
  seqCtr : t.seqCtr ≠ s.seqCtr → counts
  configured : t.configured ≠ s.configured → configures
  fault : t.fault ≠ s.fault → raises ∧ s.fault = .noFault ∧ t.fault ≠ .decodeOverrun

/-- The operation goes on, with no other effect than `EngineEffect` allows. -/
def EngineResult (counts configures raises : Prop) (s : State) (r : Result) : Prop :=
  ∃ t, r = .next t ∧ EngineEffect counts configures raises s t

section
variable {counts configures raises : Prop} {s t : State}

theorem EngineEffect.mono {counts' configures' raises' : Prop} (h : EngineEffect counts configures raises s t)
    (hc : counts → counts') (hg : configures → configures') (hr : raises → raises') :
    EngineEffect counts' configures' raises' s t :=
  ⟨h.frame, hc ∘ h.seqCtr, hg ∘ h.configured, fun hne => (h.fault hne).imp_left hr⟩

theorem EngineResult.mono {counts' configures' raises' : Prop} {r : Result}
    (h : EngineResult counts configures raises s r)
    (hc : counts → counts') (hg : configures → configures') (hr : raises → raises') :
    EngineResult counts' configures' raises' s r := by
  obtain ⟨t, hnext, ht⟩ := h
  exact ⟨t, hnext, ht.mono hc hg hr⟩

/-- Writing only the outputs. -/
theorem engineEffect_of_out (o : PortOut) : EngineEffect counts configures raises s { s with out := o } :=
  ⟨rfl, fun hne => absurd rfl hne, fun hne => absurd rfl hne, fun hne => absurd rfl hne⟩

theorem engineEffect_raiseFault {code : FaultCode} (asks : List Ask) (hr : raises) (hf : s.fault = .noFault)
    (hcode : code ≠ .decodeOverrun) : EngineEffect counts configures raises s (s.raiseFault code asks) :=
  ⟨rfl, fun hne => absurd rfl hne, fun hne => absurd rfl hne, fun _ => ⟨hr, hf, hcode⟩⟩

/-- The sticky-fault check adds only the report. -/
theorem engineResult_unlessFaulted {k : State → Result}
    (hk : s.fault = .noFault → EngineResult counts configures raises s (k s)) :
    EngineResult counts configures raises s (unlessFaulted s k) := by
  obtain ⟨-, e⟩ | ⟨hf, e⟩ := unlessFaulted_cases s k
  · exact ⟨_, e, engineEffect_of_out _⟩
  · exact e ▸ hk hf

/-- The held-packet check adds only NO_PACKET. -/
theorem engineResult_withPacket {k : Packet → Result} (hr : raises) (hf : s.fault = .noFault)
    (hk : EngineResult counts configures raises s (k s.rxPkt)) :
    EngineResult counts configures raises s (withPacket s k) := by
  obtain ⟨-, e⟩ | ⟨-, e⟩ := withPacket_cases s k
  · exact ⟨_, e, engineEffect_raiseFault [] hr hf (by decide)⟩
  · exact e ▸ hk

theorem finishRequest_effect (c : Byte) (re : Bool) {b : Built} (hc : counts) (hr : raises) (hf : s.fault = .noFault)
    (hb : b.payload ≠ .error .decodeOverrun) :
    EngineEffect counts configures raises s (finishRequest c re b s) := by
  obtain ⟨code, hcode, e⟩ | ⟨pl, -, -, e⟩ | ⟨pl, -, -, e⟩ := finishRequest_cases c re b s <;> rw [e]
  · exact engineEffect_raiseFault _ hr hf fun h => hb (h ▸ hcode)
  · exact engineEffect_raiseFault _ hr hf (by decide)
  · exact ⟨rfl, fun _ => hc, fun hne => absurd rfl hne, fun hne => absurd rfl hne⟩

theorem finishResponse_effect (q : Packet) {b : Built} (hr : raises) (hf : s.fault = .noFault)
    (hb : b.payload ≠ .error .decodeOverrun) :
    EngineEffect counts configures raises s (finishResponse q b s) := by
  obtain ⟨-, e⟩ | ⟨code, hcode, -, e⟩ | ⟨pl, -, -, -, e⟩ | ⟨pl, -, -, -, e⟩ := finishResponse_cases q b s <;> rw [e]
  · exact engineEffect_of_out _
  · exact engineEffect_raiseFault _ hr hf fun h => hb (h ▸ hcode)
  · exact engineEffect_raiseFault _ hr hf (by decide)
  · exact engineEffect_of_out _

theorem finishReceive_effect {r : Routed} (hg : r.configured ≠ s.configured → configures) :
    EngineEffect counts configures raises s (finishReceive r s) :=
  ⟨rfl, fun hne => absurd rfl hne, hg, fun hne => absurd rfl hne⟩

/-- A command run as an instruction (log entry 2) counts only in its request form and configures only in a receive form
whose action gives `configured` a new value. -/
theorem runCommand_effect (code : Byte) {req : State → Built} {resp : Packet → State → Built}
    {recv : Packet → State → Routed} (hreq : (req s).payload ≠ .error .decodeOverrun)
    (hresp : ∀ q, (resp q s).payload ≠ .error .decodeOverrun) :
    EngineResult (∃ re, s.data.action = .request re)
      (s.data.action = .receive ∧ (recv s.rxPkt s).configured ≠ s.configured) True s
      (runCommand code req resp recv s) := by
  obtain ⟨-, e⟩ | ⟨hf, -, e⟩ | ⟨re, hf, ha, e⟩ | ⟨hf, -, -, e⟩ | ⟨-, ha, -, e⟩ := runCommand_cases code req resp recv s
  · exact ⟨_, e, engineEffect_of_out _⟩
  · exact ⟨_, e, engineEffect_raiseFault [] trivial hf (by decide)⟩
  · exact ⟨_, e, finishRequest_effect code re ⟨re, ha⟩ trivial hf hreq⟩
  · exact ⟨_, e, finishResponse_effect _ trivial hf (hresp _)⟩
  · exact ⟨_, e, finishReceive_effect fun hne => ⟨ha, hne⟩⟩

end

theorem requestPayload_ne_overrun (k : Command) (s : State) : (requestPayload k s).payload ≠ .error .decodeOverrun := by
  intro h
  obtain ⟨-, hcode, -, -⟩ := requestPayload_error k s _ h
  cases hcode

theorem responsePayload_ne_overrun (k : Option Command) (q : Packet) (s : State) :
    (responsePayload k q s).payload ≠ .error .decodeOverrun := by
  obtain ⟨pl, hpl⟩ := responsePayload_ok k q s
  simp [hpl]

/-- Only CONFIG's receive action gives `configured` a new value (R183). -/
theorem receiveAction_configured {k : Option Command} {q : Packet} {s : State}
    (h : (receiveAction k q s).configured ≠ s.configured) : k = some .config := by
  obtain _ | k := k
  · exact absurd rfl h
  · cases k
    case config => rfl
    case state => simp only [receiveAction, stateReceive] at h; split at h <;> exact absurd rfl h
    all_goals exact absurd rfl h

theorem exec_command_effect (k : Command) (s : State) :
    EngineResult (∃ re, s.data.action = .request re) (s.data.action = .receive ∧ k = .config) True s (exec k.instr s) := by
  rw [exec_command]
  exact (runCommand_effect _ (requestPayload_ne_overrun k s) (responsePayload_ne_overrun _ · s)).mono id
    (And.imp_right fun hne => Option.some.inj (receiveAction_configured hne)) id

theorem runUncatalogued_effect (c : Byte) (s : State) : EngineResult True True True s (runUncatalogued c s) :=
  (runCommand_effect c (by simp) (by simp [ackResponse, Built.empty, Built.plain])).mono
    (fun _ => trivial) (fun _ => trivial) id

theorem illegalOp_effect (s : State) : EngineResult True True True s (illegalOp s) :=
  engineResult_unlessFaulted fun hf => ⟨_, rfl, engineEffect_raiseFault [] trivial hf (by decide)⟩

/-- A selection the decoder rejects leaves the transmit and the decoder registers alone. -/
theorem runUndecoded_effect (c : Code) (s : State) : EngineResult True True True s (runUndecoded c s) := by
  cases c with
  | port w => exact illegalOp_effect s
  | command b => exact runUncatalogued_effect b s

theorem execBuildRequest_effect (c : Byte) (re : Bool) (s : State) :
    EngineResult True False True s (execBuildRequest c re s) := by
  refine engineResult_unlessFaulted fun hf => ?_
  cases s.cfg.commandOf c with
  | none => exact ⟨_, rfl, engineEffect_raiseFault [] trivial hf (by decide)⟩
  | some k => exact ⟨_, rfl, finishRequest_effect c re trivial trivial hf (requestPayload_ne_overrun k s)⟩

theorem execBuildResponse_effect (s : State) : EngineResult False False True s (execBuildResponse s) :=
  engineResult_unlessFaulted fun hf => engineResult_withPacket trivial hf
    ⟨_, rfl, finishResponse_effect _ trivial hf (responsePayload_ne_overrun _ _ s)⟩

theorem execOnReceive_effect (s : State) : EngineResult False True True s (execOnReceive s) :=
  engineResult_unlessFaulted fun hf => engineResult_withPacket trivial hf
    ⟨_, rfl, finishReceive_effect fun _ => trivial⟩

theorem execChecksum_effect (s : State) : EngineResult False False False s (execChecksum s) :=
  engineResult_unlessFaulted fun _ => ⟨_, rfl, engineEffect_of_out _⟩

theorem execReadStatus_effect (s : State) : EngineResult False False False s (execReadStatus s) :=
  ⟨_, rfl, engineEffect_of_out _⟩

/-! ### Every instruction -/

/-- The instructions that write `seq_ctr`, RESET aside (R32). -/
def CountsRequests (i : Instr) (s : State) : Prop :=
  (∃ c re, i = .buildRequest c re) ∨ ∃ k re, i = Command.instr k ∧ s.data.action = .request re

/-- The instructions that write `configured`, RESET aside (R33). -/
def WritesConfigured (i : Instr) (s : State) : Prop :=
  i = .onReceive ∨ (i = .cmdConfig ∧ s.data.action = .receive)

/-- The instructions that raise a fault (R42). -/
def RaisesFaults (i : Instr) : Prop :=
  i = .encode ∨ (∃ b, i = .pushByte b) ∨ (∃ c re, i = .buildRequest c re) ∨ i = .buildResponse ∨ i = .onReceive
    ∨ ∃ k, i = Command.instr k

/-- Every effect an instruction can have on a state it goes on from. -/
inductive ExecEffect (s : State) : Instr → State → Prop
  /-- RESET (R240). -/
  | reset : ExecEffect s .reset (s.resetRegisters.drive .nothing [])
  /-- ENCODE of a packet that fits (R131). -/
  | load (hfit : 8 + s.data.packet.payload.length ≤ s.cfg.frameMax) (v : OutVal) :
      ExecEffect s .encode ((s.loadFrame s.data.packet).drive v [])
  /-- PUSH_BYTE with room in the buffer (R164). -/
  | push (b : Byte) (hroom : s.rc.toNat < s.cfg.frameMax) : ExecEffect s (.pushByte b) (s.append b).classify.drivePush
  /-- PUSH_BYTE into a full buffer (R171). -/
  | overrun (b : Byte) (hf : s.fault = .noFault) (hfull : s.rc.toNat = s.cfg.frameMax) :
      ExecEffect s (.pushByte b) (s.raiseFault .decodeOverrun [])
  /-- TX_FRAME (R241). -/
  | take (v : OutVal) : ExecEffect s .txFrame (s.takeFrame.drive v [])
  /-- Anything else, and every report of a sticky fault. -/
  | engine {i : Instr} {t : State}
      (h : EngineEffect (CountsRequests i s) (WritesConfigured i s) (RaisesFaults i) s t) : ExecEffect s i t

/-- The instruction goes on with one of the effects above, or it stops because `rc` or `tx_len` lies above FRAME_MAX
(log entry 9). -/
def GoesOnInBounds (i : Instr) (s : State) (r : Result) : Prop :=
  (∃ t, r = .next t ∧ ExecEffect s i t)
    ∨ ((s.cfg.frameMax < s.rc.toNat ∨ s.cfg.frameMax < s.txLen.toNat) ∧ ∃ f, r = .fault f)

theorem EngineResult.goesOn {counts configures raises : Prop} {i : Instr} {s : State} {r : Result}
    (h : EngineResult counts configures raises s r) (hc : counts → CountsRequests i s)
    (hg : configures → WritesConfigured i s) (hr : raises → RaisesFaults i) : GoesOnInBounds i s r := by
  obtain ⟨t, hnext, ht⟩ := h
  exact .inl ⟨t, hnext, .engine (ht.mono hc hg hr)⟩

theorem execEncode_goesOn (s : State) : GoesOnInBounds .encode s (execEncode s) := by
  unfold execEncode
  obtain ⟨-, e⟩ | ⟨hf, e⟩ := unlessFaulted_cases s _ <;> rw [e]
  · exact .inl ⟨_, rfl, .engine (engineEffect_of_out _)⟩
  · by_cases hfit : s.cfg.frameMax < 8 + s.data.packet.payload.length
    · have hover : overflows s.cfg s.data.packet.payload.length = true := decide_eq_true hfit
      exact .inl ⟨_, if_pos hover, .engine (engineEffect_raiseFault [] (.inl rfl) hf (by decide))⟩
    · have hover : ¬ overflows s.cfg s.data.packet.payload.length = true := mt of_decide_eq_true hfit
      exact .inl ⟨_, if_neg hover, .load (Nat.le_of_not_lt hfit) _⟩

theorem execPushByte_goesOn (b : Byte) (s : State) : GoesOnInBounds (.pushByte b) s (execPushByte b s) := by
  obtain ⟨-, e⟩ | ⟨hf, hfull, e⟩ | ⟨-, hbad, e⟩ | ⟨-, hroom, e⟩ := execPushByte_cases b s
  · exact .inl ⟨_, e, .engine (engineEffect_of_out _)⟩
  · exact .inl ⟨_, e, .overrun b hf hfull⟩
  · exact .inr ⟨.inl hbad, _, e⟩
  · exact .inl ⟨_, e, .push b hroom⟩

theorem execTxFrame_goesOn (s : State) : GoesOnInBounds .txFrame s (execTxFrame s) := by
  unfold execTxFrame
  obtain ⟨-, e⟩ | ⟨-, e⟩ := unlessFaulted_cases s _ <;> rw [e]
  · exact .inl ⟨_, rfl, .engine (engineEffect_of_out _)⟩
  · by_cases hbad : s.cfg.frameMax < s.txLen.toNat
    · exact .inr ⟨.inr hbad, _, if_pos hbad⟩
    · exact .inl ⟨_, if_neg hbad, .take _⟩

/-- Everything an instruction can do. -/
theorem exec_goesOn (i : Instr) (s : State) : GoesOnInBounds i s (exec i s) := by
  cases i using Instr.port_or_command with
  | reset => exact .inl ⟨_, rfl, .reset⟩
  | encode => exact execEncode_goesOn s
  | checksum => exact (execChecksum_effect s).goesOn False.elim False.elim False.elim
  | pushByte b => exact execPushByte_goesOn b s
  | buildRequest c re =>
    exact (execBuildRequest_effect c re s).goesOn (fun _ => .inl ⟨c, re, rfl⟩) False.elim
      fun _ => .inr (.inr (.inl ⟨c, re, rfl⟩))
  | buildResponse =>
    exact (execBuildResponse_effect s).goesOn False.elim False.elim fun _ => .inr (.inr (.inr (.inl rfl)))
  | onReceive =>
    exact (execOnReceive_effect s).goesOn False.elim (fun _ => .inl rfl) fun _ => .inr (.inr (.inr (.inr (.inl rfl))))
  | txFrame => exact execTxFrame_goesOn s
  | readStatus => exact (execReadStatus_effect s).goesOn False.elim False.elim False.elim
  | command k =>
    exact (exec_command_effect k s).goesOn (fun ⟨re, ha⟩ => .inr ⟨k, re, rfl, ha⟩)
      (fun ⟨ha, hk⟩ => .inr ⟨hk ▸ rfl, ha⟩) fun _ => .inr (.inr (.inr (.inr (.inr ⟨k, rfl⟩))))

theorem exec_effect {i : Instr} {s t : State} (h : exec i s = .next t) : ExecEffect s i t := by
  obtain ⟨t', e, ht⟩ | ⟨-, f, e⟩ := exec_goesOn i s
  · cases e.symm.trans h
    exact ht
  · cases e.symm.trans h

/-- The decoder writes only its own registers (R34 to R38). -/
theorem classify_frame (s : State) :
    s.classify = { s with
      rc := s.classify.rc, dstate := s.classify.dstate, rxBuf := s.classify.rxBuf, rxValid := s.classify.rxValid,
      rxPkt := s.classify.rxPkt, lastRxEvent := s.classify.lastRxEvent } := by
  obtain ⟨-, e⟩ | ⟨-, -, e⟩ | ⟨-, -, -, -, e⟩ | ⟨-, -, -, e⟩ | ⟨-, -, -, e⟩ | ⟨-, -, e⟩ | ⟨-, -, e⟩ | ⟨-, -, -, e⟩
    | ⟨-, -, -, -, e⟩ | ⟨-, -, -, -, e⟩ := classify_cases s <;> rw [e] <;> rfl

end Machine
end Sys2Proof
end

section
/-!
PROOFS. The writers of each register (spec 10_state.md sections 1 to 5 and 9).
-/

namespace Sys2Proof.Machine

/-- PUSH_BYTE writes only the decoder's registers and the outputs. -/
theorem push_frame (s : State) (b : Byte) :
    (s.append b).classify.drivePush = { s with
      rc := (s.append b).classify.rc, dstate := (s.append b).classify.dstate, rxBuf := (s.append b).classify.rxBuf,
      rxValid := (s.append b).classify.rxValid, rxPkt := (s.append b).classify.rxPkt,
      lastRxEvent := (s.append b).classify.lastRxEvent, out := (s.append b).classify.drivePush.out } := by
  have hframe := classify_frame (s.append b)
  generalize (s.append b).classify = u at hframe ⊢
  rw [hframe]
  rfl

/-- Settles O10: by the effects of `ExecEffect`, each an update of the registers that the instruction's rules name; `simp`
reads the unchanged fields off the update's laws. -/
theorem registersHaveTheirWriters : Obligations.RegistersHaveTheirWriters := by
  intro i s t h
  cases exec_effect h with
  | reset => simp
  | load => simp
  | push b => rw [push_frame]; simp
  | overrun _ hf => simp [hf]
  | take => simp
  | engine heff =>
    obtain ⟨hframe, hseq, hconf, hfault⟩ := heff
    refine ⟨?_, fun hne => .inr (hseq hne), fun hne => .inr (hconf hne), ?_, ?_, ?_,
      fun hne => .inr ⟨(hfault hne).2.1, (hfault hne).1⟩⟩ <;> rw [hframe] <;> simp

end Sys2Proof.Machine
end

section
/-!
PROOFS. The invariant (spec 10_state.md R43, 20_memory.md R60 and R70, 30_encoding.md R82): it holds where a run starts, each
effect of an instruction keeps it, and it rules out the stops.
-/

namespace Sys2Proof

theorem Config.frameMax_bounds {cfg : Config} (h : cfg.wf = true) : 8 ≤ cfg.frameMax ∧ cfg.frameMax ≤ 255 := by
  obtain ⟨hlow, hhigh, -⟩ := (Config.wf_iff cfg).mp h
  exact ⟨hlow, hhigh⟩

end Sys2Proof

namespace Sys2Proof.Machine

/-! ### A whole frame in `tx_buf` -/

theorem frameBytes_length (cfg : Config) (p : Packet) : (frameBytes cfg p).length = 8 + p.payload.length := by
  simp only [frameBytes, packetRegion, List.length_cons]
  omega

/-- The packet of a buffer that starts with the frame of `p` is `p` (R80, R162). -/
theorem framePacket_of_readBytes {cfg : Config} {m : Memory} {p : Packet}
    (h : Memory.readBytes m 0 (8 + p.payload.length) = frameBytes cfg p) : framePacket m (8 + p.payload.length) = p := by
  have hread (i : Nat) (hi : i < 8 + p.payload.length) :
      Memory.read m i = (frameBytes cfg p)[i]'(by rwa [frameBytes_length]) := by
    simp only [← h, Memory.getElem_readBytes, Nat.zero_add]
  have hpayload : Memory.readBytes m 8 p.payload.length = p.payload := by
    have hdrop := Memory.readBytes_drop m 0 (8 + p.payload.length) 8
    rw [h] at hdrop
    simpa [frameBytes, packetRegion] using hdrop.symm
  simp only [framePacket, Nat.add_sub_cancel_left, hpayload, hread 4 (by omega), hread 6 (by omega), hread 7 (by omega)]
  rfl

/-! ### The effects outside the decoder -/

/-- The conditions that do not speak of the decoder: legal parameters, `tx_buf`, the transmit registers, `fault`. -/
structure State.TransmitInv (s : State) : Prop where
  wf : s.cfg.wf = true
  txWf : Memory.wf s.txBuf
  txWithin : Memory.within s.txBuf s.cfg.frameMax
  tx : s.TxOk
  fault : s.FaultOk

/-- The conditions that speak of the decoder. -/
structure State.ReceiveInv (s : State) : Prop where
  rxWf : Memory.wf s.rxBuf
  rxWithin : Memory.within s.rxBuf s.cfg.frameMax
  decoder : s.DecoderOk
  packet : s.PacketOk

theorem State.inv_iff (s : State) : s.Inv ↔ s.TransmitInv ∧ s.ReceiveInv := by
  constructor
  · rintro ⟨hwf, ⟨hrw, hri, htw, hti⟩, hdec, hpkt, htx, hf⟩
    exact ⟨⟨hwf, htw, hti, htx, hf⟩, ⟨hrw, hri, hdec, hpkt⟩⟩
  · rintro ⟨⟨hwf, htw, hti, htx, hf⟩, ⟨hrw, hri, hdec, hpkt⟩⟩
    exact ⟨hwf, ⟨hrw, hri, htw, hti⟩, hdec, hpkt, htx, hf⟩

/-- No packet is held, and nothing says one is (R37). -/
theorem State.packetOk_of_invalid {s : State} (hv : s.rxValid = false) (he : s.lastRxEvent ≠ .frameOk)
    (hd : s.dstate ≠ .frameComplete) : s.PacketOk := by
  simp [State.PacketOk, hv, he, hd]

theorem State.initial_inv {cfg : Config} (h : cfg.wf = true) : (State.initial cfg).Inv :=
  (State.inv_iff _).mpr
    ⟨⟨h, Memory.nil_wf, Memory.nil_within _, .inl ⟨rfl, rfl⟩, fun hf => by cases hf⟩,
      ⟨Memory.nil_wf, Memory.nil_within _, .inl ⟨rfl, Nat.zero_le 1⟩, State.packetOk_of_invalid rfl nofun nofun⟩⟩

theorem EngineEffect.inv {counts configures raises : Prop} {s t : State}
    (h : EngineEffect counts configures raises s t) (hs : s.Inv) : t.Inv := by
  obtain ⟨hwf, hbuf, hdec, hpkt, htx, hfault⟩ := hs
  have hfault' : t.fault = .decodeOverrun → s.cfg.earlyLengthCheck = false := by
    intro ht
    by_cases hne : t.fault = s.fault
    · exact hfault (hne ▸ ht)
    · exact absurd ht (h.fault hne).2.2
  rw [h.frame]
  exact ⟨hwf, hbuf, hdec, hpkt, htx, hfault'⟩

/-- ENCODE leaves a whole frame in `tx_buf`. -/
theorem State.TransmitInv.loadFrame {s : State} {p : Packet} (hs : s.TransmitInv)
    (hfit : 8 + p.payload.length ≤ s.cfg.frameMax) : (s.loadFrame p).TransmitInv := by
  have hmax := (Config.frameMax_bounds hs.wf).2
  have hlen : (s.loadFrame p).txLen.toNat = 8 + p.payload.length := by
    simp only [State.loadFrame_txLen, BitVec.toNat_ofNat]
    omega
  have hbytes : Memory.readBytes (s.loadFrame p).txBuf 0 (8 + p.payload.length) = frameBytes s.cfg p := by
    rw [← frameBytes_length s.cfg p]
    exact Memory.readBytes_writeBytes s.txBuf 0 (frameBytes s.cfg p)
  exact {
    wf := hs.wf
    txWf := Memory.writeBytes_wf _ _ _ hs.txWf
    txWithin := Memory.writeBytes_within _ _ _ _ hs.txWithin (by rw [frameBytes_length, Nat.zero_add]; exact hfit)
    tx := .inr (by
      rw [hlen, hbytes, framePacket_of_readBytes hbytes]
      exact ⟨Nat.le_add_right _ _, hfit, rfl⟩)
    fault := hs.fault }

theorem State.TransmitInv.takeFrame {s : State} (hs : s.TransmitInv) : s.takeFrame.TransmitInv where
  wf := hs.wf
  txWf := hs.txWf
  txWithin := hs.txWithin
  tx := hs.tx.imp_left fun ⟨hlen, _⟩ => ⟨hlen, rfl⟩
  fault := hs.fault

/-! ### PUSH_BYTE -/

/-- The state between PUSH_BYTE's append and its classification: a byte stands below `rc`, no packet is held, and from the
fourth byte on an early-checked total_length bounds `rc`. -/
structure State.Appended (s : State) : Prop where
  rxWf : Memory.wf s.rxBuf
  rxWithin : Memory.within s.rxBuf s.cfg.frameMax
  valid : s.rxValid = false
  rc_le : s.rc.toNat ≤ s.cfg.frameMax
  length : 4 ≤ s.rc.toNat → s.cfg.earlyLengthCheck = true →
    8 ≤ (Memory.read s.rxBuf 2).toNat ∧ s.rc.toNat ≤ (Memory.read s.rxBuf 2).toNat
      ∧ (Memory.read s.rxBuf 2).toNat ≤ s.cfg.frameMax

/-- With three bytes or more held, the decoder accumulates; an early-checked total_length is in range and not reached. -/
theorem State.DecoderOk.length {s : State} (h : s.DecoderOk) (hrc : 3 ≤ s.rc.toNat)
    (hearly : s.cfg.earlyLengthCheck = true) :
    8 ≤ (Memory.read s.rxBuf 2).toNat ∧ s.rc.toNat < (Memory.read s.rxBuf 2).toNat
      ∧ (Memory.read s.rxBuf 2).toNat ≤ s.cfg.frameMax := by
  obtain ⟨-, h1⟩ | ⟨-, h2⟩ | ⟨-, -, -, hlen⟩ | ⟨-, h0⟩ := h
  · omega
  · omega
  · exact hlen hearly
  · omega

theorem State.DecoderOk.rc_le {s : State} (h : s.DecoderOk) (hmax : 2 ≤ s.cfg.frameMax) :
    s.rc.toNat ≤ s.cfg.frameMax := by
  obtain ⟨-, h1⟩ | ⟨-, h2⟩ | ⟨-, -, hle, -⟩ | ⟨-, h0⟩ := h <;> omega

theorem State.ReceiveInv.append {s : State} (b : Byte) (hs : s.ReceiveInv) (hmax : s.cfg.frameMax ≤ 255)
    (hroom : s.rc.toNat < s.cfg.frameMax) : (s.append b).Appended := by
  have hrc : (s.append b).rc.toNat = s.rc.toNat + 1 := by
    rw [State.append_rc, BitVec.toNat_add]
    exact Nat.mod_eq_of_lt (by simp; omega)
  refine ⟨Memory.write_wf _ _ _ hs.rxWf, Memory.write_within _ _ _ _ hs.rxWithin hroom, rfl, ?_, ?_⟩
  · rw [hrc]
    exact hroom
  · intro h4 hearly
    rw [hrc] at h4 ⊢
    have hsame : Memory.read (s.append b).rxBuf 2 = Memory.read s.rxBuf 2 :=
      Memory.read_write_other _ _ _ _ (by omega)
    rw [hsame]
    exact hs.decoder.length (by omega) hearly

section
variable {s : State}

theorem State.Appended.progress {d : DState} (hs : s.Appended) (hdec : (s.progress d).DecoderOk)
    (hd : d ≠ .frameComplete) : (s.progress d).ReceiveInv where
  rxWf := hs.rxWf
  rxWithin := hs.rxWithin
  decoder := hdec
  packet := State.packetOk_of_invalid hs.valid nofun hd

theorem State.Appended.discard {e : RxEvent} (hs : s.Appended) (he : e ≠ .frameOk) : (s.discard e).ReceiveInv where
  rxWf := Memory.zero_wf
  rxWithin := Memory.nil_within _
  decoder := .inl ⟨rfl, Nat.zero_le 1⟩
  packet := State.packetOk_of_invalid hs.valid he nofun

theorem State.Appended.keepSecond (hs : s.Appended) (hmax : 0 < s.cfg.frameMax) : s.keepSecond.ReceiveInv where
  rxWf := Memory.write_wf _ _ _ Memory.zero_wf
  rxWithin := Memory.write_within _ _ _ _ (Memory.nil_within _) hmax
  decoder := .inl ⟨rfl, Nat.le_refl 1⟩
  packet := State.packetOk_of_invalid hs.valid nofun nofun

theorem State.Appended.accept (hs : s.Appended) : (s.accept s.rc.toNat).ReceiveInv where
  rxWf := hs.rxWf
  rxWithin := hs.rxWithin
  decoder := .inr (.inr (.inr ⟨rfl, rfl⟩))
  packet := by
    refine ⟨by simp, by simp, fun _ => ?_⟩
    rw [State.accept_rxPkt, framePacket, Memory.readBytes_length]
    exact Nat.sub_le_sub_right hs.rc_le 8

/-- What the decoder does with an appended byte restores its invariant. -/
theorem State.Appended.classify (hs : s.Appended) (hmax : 8 ≤ s.cfg.frameMax) : s.classify.ReceiveInv := by
  obtain ⟨hrc, e⟩ | ⟨hrc, -, e⟩ | ⟨-, -, -, -, e⟩ | ⟨-, -, -, e⟩ | ⟨-, -, -, e⟩ | ⟨hrc, hlen, e⟩ | ⟨hrc, hne, e⟩
    | ⟨-, -, -, e⟩ | ⟨-, -, -, -, e⟩ | ⟨-, -, -, -, e⟩ := classify_cases s <;> rw [e]
  · exact hs.progress (.inl ⟨rfl, Nat.le_of_lt_succ hrc⟩) (by decide)
  · exact hs.progress (.inr (.inl ⟨rfl, hrc⟩)) (by decide)
  · exact hs.keepSecond (by omega)
  · exact hs.discard (by decide)
  · exact hs.discard (by decide)
  · refine hs.progress (.inr (.inr (.inl ⟨rfl, hrc.ge, hs.rc_le, fun hearly => ?_⟩))) (by decide)
    have hrange : ¬ lengthOutOfRange s.cfg (Memory.read s.rxBuf 2) = true := fun hout => hlen ⟨hearly, hout⟩
    simp only [lengthOutOfRange, Bool.or_eq_true, decide_eq_true_eq] at hrange
    simp only [State.progress_rc, State.progress_rxBuf, State.progress_cfg]
    omega
  · refine hs.progress (.inr (.inr (.inl ⟨rfl, by simp; omega, hs.rc_le, fun hearly => ?_⟩))) (by decide)
    have hbound := hs.length hrc hearly
    have hnot : s.rc.toNat ≠ (Memory.read s.rxBuf 2).toNat := by
      obtain h4 | hne := hne
      · omega
      · exact fun h => hne (BitVec.eq_of_toNat_eq h)
    simp only [State.progress_rc, State.progress_rxBuf, State.progress_cfg]
    omega
  · exact hs.discard (by decide)
  · exact hs.discard (by decide)
  · exact hs.accept

end

/-! ### Every step -/

theorem ExecEffect.inv {i : Instr} {s t : State} (h : ExecEffect s i t) (hs : s.Inv) : t.Inv := by
  obtain ⟨htx, hrx⟩ := (State.inv_iff s).mp hs
  have hmax := Config.frameMax_bounds htx.wf
  cases h with
  | reset => exact State.initial_inv htx.wf
  | load hfit v =>
    obtain ⟨hwf, htw, hti, htx', hf⟩ := htx.loadFrame hfit
    exact ⟨hwf, ⟨hrx.rxWf, hrx.rxWithin, htw, hti⟩, hrx.decoder, hrx.packet, htx', hf⟩
  | push b hroom =>
    have hrx' := (hrx.append b hmax.2 hroom).classify hmax.1
    rw [classify_frame] at hrx'
    rw [push_frame]
    exact ⟨htx.wf, ⟨hrx'.rxWf, hrx'.rxWithin, htx.txWf, htx.txWithin⟩, hrx'.decoder, hrx'.packet, htx.tx, htx.fault⟩
  | overrun b hf hfull =>
    refine ⟨htx.wf, hs.2.1, hrx.decoder, hrx.packet, htx.tx, fun _ => ?_⟩
    by_contra hearly
    have hlen := hrx.decoder.length (by omega) (by simpa using hearly)
    omega
  | take v =>
    obtain ⟨hwf, htw, hti, htx', hf⟩ := htx.takeFrame
    exact ⟨hwf, ⟨hrx.rxWf, hrx.rxWithin, htw, hti⟩, hrx.decoder, hrx.packet, htx', hf⟩
  | engine heff => exact heff.inv hs

/-- Under the invariant `rc` and `tx_len` are in range, so neither stop can happen (R70). -/
theorem exec_keeps_inv (i : Instr) {s : State} (hs : s.Inv) : ∃ t, exec i s = .next t ∧ t.Inv := by
  obtain ⟨htx, hrx⟩ := (State.inv_iff s).mp hs
  have hmax := Config.frameMax_bounds htx.wf
  obtain ⟨t, e, heff⟩ | ⟨hbad, -⟩ := exec_goesOn i s
  · exact ⟨t, e, heff.inv hs⟩
  · have hrc := hrx.decoder.rc_le (by omega)
    obtain ⟨hlen, -⟩ | ⟨-, hlen, -⟩ := htx.tx <;> omega

theorem step_keeps_inv {s : State} (hs : s.Inv) : ∃ t, step s = .next t ∧ t.Inv := by
  obtain ⟨-, e⟩ | ⟨r, rest, i, -, -, e⟩ | ⟨r, rest, err, -, -, e⟩ := step_cases s
  · exact ⟨s, e, hs⟩
  · rw [e]
    exact exec_keeps_inv i (s := s.latch r rest) hs
  · obtain ⟨t, hnext, heff⟩ := runUndecoded_effect r.code (s.latch r rest)
    exact ⟨t, e.trans hnext, heff.inv (s := s.latch r rest) hs⟩

/-- Settles O8: the next state is the one `step_keeps_inv` gives. -/
theorem stepKeepsInvariant : Obligations.StepKeepsInvariant := by
  intro s t hs hstep
  obtain ⟨t', e, ht⟩ := step_keeps_inv hs
  cases e.symm.trans hstep
  exact ht

/-- Every state of a run under legal parameters meets the invariant. -/
theorem Reachable.inv {cfg : Config} {s : State} (hcfg : cfg.wf = true) (h : Reachable cfg s) : s.Inv := by
  induction h with
  | start ops => exact State.initial_inv hcfg
  | step s t _ hstep ih => exact stepKeepsInvariant s t ih hstep

/-- Settles O9: `step_keeps_inv` for a state with the invariant, and the invariant for every reachable state. -/
theorem noRunStops : Obligations.NoRunStops := by
  have hnext (s : State) (hs : s.Inv) : ∃ t, step s = .next t := (step_keeps_inv hs).imp fun _ => And.left
  exact ⟨hnext, fun _ s hcfg hreach => hnext s (hreach.inv hcfg)⟩

end Sys2Proof.Machine
end

section
/-!
PROOFS. What no rule reads is never observed (spec 10_state.md R37, R39, R47): `SameObservable` is a simulation of the block
by itself, kept by each shared operation, each instruction and each step.
-/

namespace Sys2Proof.Machine

/-! ### Two states that differ only in what is not read -/

/-- `s` with other buffers and another `rx_pkt`. -/
def State.withUnread (s : State) (rx tx : Memory) (p : Packet) : State := { s with rxBuf := rx, txBuf := tx, rxPkt := p }

/-- What the observable part of the state is made of is the same in `s` and `u`. -/
structure State.KeepsHeld (s u : State) : Prop where
  rc : u.rc = s.rc
  rxBuf : u.rxBuf = s.rxBuf
  rxValid : u.rxValid = s.rxValid
  rxPkt : u.rxPkt = s.rxPkt
  txLen : u.txLen = s.txLen
  txBuf : u.txBuf = s.txBuf

theorem SameObservable.refl (s : State) : SameObservable s s := ⟨rfl, fun _ _ => rfl, fun _ _ => rfl, fun _ => rfl⟩

section
variable {s t : State}

theorem SameObservable.exists_withUnread (h : SameObservable s t) : ∃ rx tx p, t = s.withUnread rx tx p :=
  ⟨_, _, _, h.rest⟩

theorem SameObservable.fault_eq (h : SameObservable s t) : t.fault = s.fault := by rw [h.rest]
theorem SameObservable.rxValid_eq (h : SameObservable s t) : t.rxValid = s.rxValid := by rw [h.rest]
theorem SameObservable.cfg_eq (h : SameObservable s t) : t.cfg = s.cfg := by rw [h.rest]
theorem SameObservable.rc_eq (h : SameObservable s t) : t.rc = s.rc := by rw [h.rest]
theorem SameObservable.txLen_eq (h : SameObservable s t) : t.txLen = s.txLen := by rw [h.rest]
theorem SameObservable.data_eq (h : SameObservable s t) : t.data = s.data := by rw [h.rest]
theorem SameObservable.pending_eq (h : SameObservable s t) : t.pending = s.pending := by rw [h.rest]

/-- An update that neither reads nor writes what `SameObservable` leaves open keeps it. -/
theorem SameObservable.map {f : State → State} (h : SameObservable s t) (hk : s.KeepsHeld (f s))
    (hf : ∀ rx tx p, f (s.withUnread rx tx p) = (f s).withUnread rx tx p) : SameObservable (f s) (f t) := by
  obtain ⟨rx, tx, p, rfl⟩ := h.exists_withUnread
  rw [hf]
  refine ⟨rfl, ?_, ?_, ?_⟩
  · rw [hk.rc, hk.rxBuf]
    exact h.rx
  · rw [hk.txLen, hk.txBuf]
    exact h.tx
  · rw [hk.rxValid, hk.rxPkt]
    exact h.pkt

theorem SameObservable.drive (h : SameObservable s t) (v : OutVal) (asks : List Ask) :
    SameObservable (s.drive v asks) (t.drive v asks) :=
  h.map (f := fun u => u.drive v asks) ⟨rfl, rfl, rfl, rfl, rfl, rfl⟩ fun _ _ _ => rfl

theorem SameObservable.raiseFault (h : SameObservable s t) (code : FaultCode) (asks : List Ask) :
    SameObservable (s.raiseFault code asks) (t.raiseFault code asks) :=
  h.map (f := fun u => u.raiseFault code asks) ⟨rfl, rfl, rfl, rfl, rfl, rfl⟩ fun _ _ _ => rfl

theorem SameObservable.reportFault (h : SameObservable s t) : SameObservable s.reportFault t.reportFault :=
  h.map (f := State.reportFault) ⟨rfl, rfl, rfl, rfl, rfl, rfl⟩ fun _ _ _ => rfl

theorem SameObservable.latch (h : SameObservable s t) (r : PortRequest) (rest : List PortRequest) :
    SameObservable (s.latch r rest) (t.latch r rest) :=
  h.map (f := fun u => u.latch r rest) ⟨rfl, rfl, rfl, rfl, rfl, rfl⟩ fun _ _ _ => rfl

theorem SameObservable.takeFrame (h : SameObservable s t) : SameObservable s.takeFrame t.takeFrame :=
  h.map (f := State.takeFrame) ⟨rfl, rfl, rfl, rfl, rfl, rfl⟩ fun _ _ _ => rfl

/-- Two branchings on the same condition, branch by branch. -/
theorem SameObservable.ite {c d : Prop} [Decidable c] [Decidable d] {s₁ s₂ t₁ t₂ : State} (hcd : c ↔ d)
    (h₁ : c → SameObservable s₁ t₁) (h₂ : ¬c → SameObservable s₂ t₂) :
    SameObservable (if c then s₁ else s₂) (if d then t₁ else t₂) := by
  by_cases hc : c
  · rw [if_pos hc, if_pos (hcd.mp hc)]
    exact h₁ hc
  · rw [if_neg hc, if_neg (mt hcd.mpr hc)]
    exact h₂ hc

/-! ### The checks before an operation -/

theorem SameObservable.unlessFaulted {k l : State → Result} (h : SameObservable s t)
    (hk : s.fault = .noFault → SameOutcome SameObservable (k s) (l t)) :
    SameOutcome SameObservable (unlessFaulted s k) (unlessFaulted t l) := by
  obtain ⟨hf, e⟩ | ⟨hf, e⟩ := unlessFaulted_cases s k
  · rw [e, unlessFaulted_faulted t l (h.fault_eq ▸ hf)]
    exact h.reportFault
  · rw [e, unlessFaulted_ok t l (h.fault_eq.trans hf)]
    exact hk hf

theorem SameObservable.withPacket {k l : Packet → Result} (h : SameObservable s t)
    (hk : SameOutcome SameObservable (k s.rxPkt) (l s.rxPkt)) :
    SameOutcome SameObservable (withPacket s k) (withPacket t l) := by
  obtain ⟨hv, e⟩ | ⟨hv, e⟩ := withPacket_cases s k
  · obtain ⟨-, e'⟩ | ⟨hv', -⟩ := withPacket_cases t l
    · rw [e, e']
      exact h.raiseFault .noPacket []
    · rw [h.rxValid_eq, hv] at hv'
      cases hv'
  · obtain ⟨hv', -⟩ | ⟨-, e'⟩ := withPacket_cases t l
    · rw [h.rxValid_eq, hv] at hv'
      cases hv'
    · rw [e, e', h.pkt hv]
      exact hk

/-! ### The dispatch engine -/

theorem SameObservable.finishRequest (h : SameObservable s t) (c : Byte) (re : Bool) (b : Built) :
    SameObservable (finishRequest c re b s) (finishRequest c re b t) := by
  unfold Machine.finishRequest
  obtain code | pl := b.payload
  · exact h.raiseFault code b.asks
  · refine .ite (by rw [h.cfg_eq]) (fun _ => h.raiseFault _ _) fun _ => ?_
    exact h.map (f := fun u => u.bumpSeq.drive (.request (requestPacket u c re pl)) b.asks)
      ⟨rfl, rfl, rfl, rfl, rfl, rfl⟩ fun _ _ _ => rfl

theorem SameObservable.finishResponse (h : SameObservable s t) (q : Packet) (b : Built) :
    SameObservable (finishResponse q b s) (finishResponse q b t) := by
  unfold Machine.finishResponse
  refine .ite (by rw [h.cfg_eq]) (fun _ => ?_) fun _ => h.drive _ _
  obtain code | pl := b.payload
  · exact h.raiseFault code b.asks
  · refine .ite (by rw [h.cfg_eq]) (fun _ => h.raiseFault _ _) fun _ => ?_
    rw [h.cfg_eq]
    exact h.drive _ _

theorem SameObservable.finishReceive (h : SameObservable s t) (r : Routed) :
    SameObservable (finishReceive r s) (finishReceive r t) :=
  h.map (f := Machine.finishReceive r) ⟨rfl, rfl, rfl, rfl, rfl, rfl⟩ fun _ _ _ => rfl

/-- A request's payload is built from the data channel, the parameters and the answers (R180). -/
theorem SameObservable.requestPayload (h : SameObservable s t) (k : Command) :
    requestPayload k t = requestPayload k s := by
  rw [h.rest]
  cases k <;> rfl

/-- A response's payload is built from the held packet, the parameters and the answers (R182). -/
theorem SameObservable.responsePayload (h : SameObservable s t) (k : Option Command) (q : Packet) :
    responsePayload k q t = responsePayload k q s := by
  rw [h.rest]
  obtain _ | k := k
  · rfl
  · cases k <;> rfl

/-- A receive action reads the held packet, the parameters, the answers and `configured` (R183). -/
theorem SameObservable.receiveAction (h : SameObservable s t) (k : Option Command) (q : Packet) :
    receiveAction k q t = receiveAction k q s := by
  rw [h.rest]
  obtain _ | k := k
  · rfl
  · cases k <;> rfl

theorem SameObservable.runCommand (h : SameObservable s t) (code : Byte) {req : State → Built}
    {resp : Packet → State → Built} {recv : Packet → State → Routed} (hreq : req t = req s)
    (hresp : ∀ q, resp q t = resp q s) (hrecv : ∀ q, recv q t = recv q s) :
    SameOutcome SameObservable (runCommand code req resp recv s) (runCommand code req resp recv t) := by
  refine h.unlessFaulted fun _ => ?_
  rw [h.data_eq]
  cases s.data.action with
  | request re => exact hreq ▸ h.finishRequest code re (req s)
  | response => exact h.withPacket (hresp _ ▸ h.finishResponse _ _)
  | receive => exact h.withPacket (hrecv _ ▸ h.finishReceive _)

theorem SameObservable.execBuildRequest (h : SameObservable s t) (c : Byte) (re : Bool) :
    SameOutcome SameObservable (execBuildRequest c re s) (execBuildRequest c re t) := by
  refine h.unlessFaulted fun _ => ?_
  rw [h.cfg_eq]
  cases s.cfg.commandOf c with
  | none => exact h.raiseFault .illegalOp []
  | some k =>
    dsimp only
    rw [h.requestPayload k]
    exact h.finishRequest c re _

theorem SameObservable.execBuildResponse (h : SameObservable s t) :
    SameOutcome SameObservable (execBuildResponse s) (execBuildResponse t) :=
  h.unlessFaulted fun _ => h.withPacket (by
    rw [h.cfg_eq, h.responsePayload]
    exact h.finishResponse _ _)

theorem SameObservable.execOnReceive (h : SameObservable s t) :
    SameOutcome SameObservable (execOnReceive s) (execOnReceive t) :=
  h.unlessFaulted fun _ => h.withPacket (by
    rw [h.cfg_eq, h.receiveAction]
    exact h.finishReceive _)

theorem SameObservable.exec_command (h : SameObservable s t) (k : Command) :
    SameOutcome SameObservable (exec k.instr s) (exec k.instr t) := by
  rw [Machine.exec_command, Machine.exec_command, h.cfg_eq]
  exact h.runCommand _ (h.requestPayload k) (h.responsePayload _) (h.receiveAction _)

theorem SameObservable.illegalOp (h : SameObservable s t) :
    SameOutcome SameObservable (illegalOp s) (illegalOp t) := by
  refine h.unlessFaulted fun _ => ?_
  exact h.raiseFault .illegalOp []

theorem SameObservable.runUncatalogued (h : SameObservable s t) (b : Byte) :
    SameOutcome SameObservable (runUncatalogued b s) (runUncatalogued b t) := by
  refine h.runCommand b rfl (fun _ => rfl) ?_
  exact h.receiveAction none

theorem SameObservable.runUndecoded (h : SameObservable s t) (c : Code) :
    SameOutcome SameObservable (runUndecoded c s) (runUndecoded c t) := by
  cases c with
  | port w => exact h.illegalOp
  | command b => exact h.runUncatalogued b

/-! ### Control operations and the Frame Codec -/

theorem SameObservable.execTxFrame (h : SameObservable s t) :
    SameOutcome SameObservable (execTxFrame s) (execTxFrame t) := by
  refine h.unlessFaulted fun _ => ?_
  have hframe : Memory.readBytes t.txBuf 0 s.txLen.toNat = Memory.readBytes s.txBuf 0 s.txLen.toNat :=
    Memory.readBytes_congr _ _ _ _ fun i hi => by
      rw [Nat.zero_add]
      exact h.tx i hi
  rw [h.cfg_eq, h.txLen_eq, hframe]
  split
  · rfl
  · exact h.takeFrame.drive _ _

/-- READ_STATUS shows `rx_pkt` only while a packet is held (R49). -/
theorem SameObservable.execReadStatus (h : SameObservable s t) :
    SameOutcome SameObservable (execReadStatus s) (execReadStatus t) := by
  have h0 : status0 t = status0 s := by rw [h.rest]; rfl
  have h1 : status1 t = status1 s := by
    unfold status1
    rw [h.rxValid_eq, h.txLen_eq]
    by_cases hv : s.rxValid = true
    · rw [h.pkt hv]
    · rw [if_neg hv, if_neg hv]
  have hstatus : statusOf t.fault = statusOf s.fault := by rw [h.fault_eq]
  have hout := h.map (f := fun u =>
    { u with out := { status := statusOf s.fault, val := .statusWords (status0 s) (status1 s), asks := [] } })
    ⟨rfl, rfl, rfl, rfl, rfl, rfl⟩ fun _ _ _ => rfl
  unfold Machine.execReadStatus
  rw [h0, h1, hstatus]
  exact hout

/-- ENCODE overwrites whatever stood in the frame's place (R131). -/
theorem SameObservable.loadFrame (h : SameObservable s t) (p : Packet) :
    SameObservable (s.loadFrame p) (t.loadFrame p) := by
  obtain ⟨rx, tx, q, rfl⟩ := h.exists_withUnread
  refine ⟨rfl, h.rx, fun a ha => ?_, h.pkt⟩
  have hin : a < (frameBytes s.cfg p).length := by
    rw [frameBytes_length]
    exact Nat.lt_of_lt_of_le ha (Nat.mod_le _ _)
  have hread (m : Memory) : Memory.read (Memory.writeBytes m 0 (frameBytes s.cfg p)) a = (frameBytes s.cfg p)[a] := by
    simpa using Memory.read_writeBytes_inside (frameBytes s.cfg p) m 0 a hin
  exact (hread tx).trans (hread s.txBuf).symm

theorem SameObservable.execEncode (h : SameObservable s t) :
    SameOutcome SameObservable (execEncode s) (execEncode t) := by
  refine h.unlessFaulted fun _ => ?_
  rw [h.cfg_eq, h.data_eq]
  split
  · exact h.raiseFault .frameOverflow []
  · exact (h.loadFrame s.data.packet).drive _ _

theorem SameObservable.execChecksum (h : SameObservable s t) :
    SameOutcome SameObservable (execChecksum s) (execChecksum t) := by
  refine h.unlessFaulted fun _ => ?_
  rw [h.cfg_eq, h.data_eq]
  exact h.drive _ _

/-! ### PUSH_BYTE -/

/-- The byte goes to the same place, so one byte more agrees. -/
theorem SameObservable.append (h : SameObservable s t) (b : Byte) : SameObservable (s.append b) (t.append b) := by
  obtain ⟨rx, tx, p, rfl⟩ := h.exists_withUnread
  refine ⟨rfl, fun a ha => ?_, h.tx, fun hv => by cases hv⟩
  have hle : (s.append b).rc.toNat ≤ s.rc.toNat + 1 := by
    rw [State.append_rc, BitVec.toNat_add]
    exact Nat.mod_le _ _
  change Memory.read (Memory.write rx s.rc.toNat b) a = Memory.read (Memory.write s.rxBuf s.rc.toNat b) a
  rw [Memory.read_write, Memory.read_write]
  split
  · rfl
  · exact h.rx a (by omega)

theorem SameObservable.progress (h : SameObservable s t) (d : DState) : SameObservable (s.progress d) (t.progress d) :=
  h.map (f := fun u => u.progress d) ⟨rfl, rfl, rfl, rfl, rfl, rfl⟩ fun _ _ _ => rfl

theorem SameObservable.discard (h : SameObservable s t) (e : RxEvent) : SameObservable (s.discard e) (t.discard e) := by
  obtain ⟨rx, tx, p, rfl⟩ := h.exists_withUnread
  exact ⟨rfl, fun _ _ => rfl, h.tx, h.pkt⟩

theorem SameObservable.keepSecond (h : SameObservable s t) (hrc : s.rc.toNat = 2) :
    SameObservable s.keepSecond t.keepSecond := by
  have hsecond := h.rx 1 (by omega)
  obtain ⟨rx, tx, p, rfl⟩ := h.exists_withUnread
  refine ⟨rfl, fun a _ => ?_, h.tx, h.pkt⟩
  rw [State.keepSecond_rxBuf, hsecond, State.keepSecond_rxBuf]

/-- A packet is made of held bytes only (R162). -/
theorem SameObservable.framePacket (h : SameObservable s t) (hrc : 8 ≤ s.rc.toNat) :
    framePacket t.rxBuf s.rc.toNat = framePacket s.rxBuf s.rc.toNat := by
  have hpayload : Memory.readBytes t.rxBuf 8 (s.rc.toNat - 8) = Memory.readBytes s.rxBuf 8 (s.rc.toNat - 8) :=
    Memory.readBytes_congr _ _ _ _ fun i hi => h.rx (8 + i) (by omega)
  unfold Machine.framePacket
  rw [h.rx 4 (by omega), h.rx 6 (by omega), h.rx 7 (by omega), hpayload]

theorem SameObservable.accept (h : SameObservable s t) (hrc : 8 ≤ s.rc.toNat) :
    SameObservable (s.accept s.rc.toNat) (t.accept s.rc.toNat) := by
  have hpkt := h.framePacket hrc
  obtain ⟨rx, tx, p, rfl⟩ := h.exists_withUnread
  exact ⟨rfl, fun a ha => absurd ha (Nat.not_lt_zero a), h.tx, fun _ => hpkt⟩

/-- The validation reads held bytes only: the payload_length of a frame shorter than 8 bytes does not matter (R161). -/
theorem SameObservable.complete (h : SameObservable s t) (hrc : 5 ≤ s.rc.toNat) :
    SameObservable s.complete t.complete := by
  have hregion : Memory.readBytes t.rxBuf 4 (s.rc.toNat - 4) = Memory.readBytes s.rxBuf 4 (s.rc.toNat - 4) :=
    Memory.readBytes_congr _ _ _ _ fun i hi => h.rx (4 + i) (by omega)
  have hlength : s.rc.toNat < 8 ∨ s.rc.toNat ≠ 8 + (Memory.read s.rxBuf 5).toNat
      ↔ s.rc.toNat < 8 ∨ s.rc.toNat ≠ 8 + (Memory.read t.rxBuf 5).toNat := by
    by_cases h8 : s.rc.toNat < 8
    · simp [h8]
    · rw [h.rx 5 (by omega)]
  unfold State.complete
  dsimp only
  rw [h.rc_eq, h.cfg_eq, hregion, h.rx 3 (by omega)]
  refine .ite hlength (fun _ => h.discard _) fun hlen => ?_
  exact .ite Iff.rfl (fun _ => h.discard _) fun _ => h.accept (by omega)

/-- At every position the decoder reads held bytes only (R164). -/
theorem SameObservable.classify (h : SameObservable s t) : SameObservable s.classify t.classify := by
  unfold State.classify
  rw [h.rc_eq, h.cfg_eq]
  refine .ite Iff.rfl (fun _ => h.progress _) fun h2 => ?_
  refine .ite Iff.rfl (fun e2 => ?_) fun e2 => ?_
  · rw [h.rx 0 (by omega), h.rx 1 (by omega)]
    refine .ite Iff.rfl (fun _ => h.progress _) fun _ => ?_
    exact .ite Iff.rfl (fun _ => h.keepSecond e2) fun _ => h.discard _
  · rw [h.rx 2 (by omega)]
    refine .ite Iff.rfl (fun _ => .ite Iff.rfl (fun _ => h.discard _) fun _ => h.progress _) fun e3 => ?_
    exact .ite Iff.rfl (fun _ => h.progress _) fun h4 => h.complete (by omega)

/-- FRAME_OK is the event of an acceptance, which holds the packet (R162). -/
theorem classify_rxValid_of_frameOk (h : s.classify.lastRxEvent = .frameOk) : s.classify.rxValid = true := by
  obtain ⟨-, e⟩ | ⟨-, -, e⟩ | ⟨-, -, -, -, e⟩ | ⟨-, -, -, e⟩ | ⟨-, -, -, e⟩ | ⟨-, -, e⟩ | ⟨-, -, e⟩ | ⟨-, -, -, e⟩
    | ⟨-, -, -, -, e⟩ | ⟨-, -, -, -, e⟩ := classify_cases s <;> simp [e] at h ⊢

/-- PUSH_BYTE outputs `rx_pkt` only when the event is FRAME_OK (R150). -/
theorem SameObservable.drivePush (h : SameObservable s t) (hv : s.lastRxEvent = .frameOk → s.rxValid = true) :
    SameObservable s.drivePush t.drivePush := by
  have hevent : t.lastRxEvent = s.lastRxEvent := by rw [h.rest]
  have hpkt : (if s.lastRxEvent = .frameOk then some t.rxPkt else none)
      = if s.lastRxEvent = .frameOk then some s.rxPkt else none := by
    split
    · next hok => rw [h.pkt (hv hok)]
    · rfl
  unfold State.drivePush
  rw [hevent, hpkt]
  exact h.drive _ _

theorem SameObservable.execPushByte (h : SameObservable s t) (b : Byte) :
    SameOutcome SameObservable (execPushByte b s) (execPushByte b t) := by
  refine h.unlessFaulted fun _ => ?_
  rw [h.cfg_eq, h.rc_eq]
  split
  · exact h.raiseFault .decodeOverrun []
  split
  · rfl
  · exact (h.append b).classify.drivePush classify_rxValid_of_frameOk

/-! ### Every step -/

theorem SameObservable.execReset (h : SameObservable s t) :
    SameOutcome SameObservable (execReset s) (execReset t) := by
  obtain ⟨rx, tx, p, rfl⟩ := h.exists_withUnread
  exact SameObservable.refl _

theorem SameObservable.exec (h : SameObservable s t) (i : Instr) :
    SameOutcome SameObservable (exec i s) (exec i t) := by
  cases i using Instr.port_or_command with
  | reset => exact h.execReset
  | encode => exact h.execEncode
  | checksum => exact h.execChecksum
  | pushByte b => exact h.execPushByte b
  | buildRequest c re => exact h.execBuildRequest c re
  | buildResponse => exact h.execBuildResponse
  | onReceive => exact h.execOnReceive
  | txFrame => exact h.execTxFrame
  | readStatus => exact h.execReadStatus
  | command k => exact h.exec_command k

end

/-- Settles O11: the same operation is on the port of both states, and each way to perform it keeps `SameObservable`. -/
theorem unreadStateIsUnobservable : Obligations.UnreadStateIsUnobservable := by
  intro s t h
  unfold step
  rw [h.pending_eq, h.cfg_eq]
  cases s.pending with
  | nil => exact h
  | cons r rest =>
    cases hd : decode s.cfg r.code with
    | ok i => simpa only [hd] using (h.latch r rest).exec i
    | error e => simpa only [hd] using (h.latch r rest).runUndecoded r.code

end Sys2Proof.Machine
end

section
/-!
PROOFS. Decoding and encoding (spec 30_encoding.md sections 2 and 5): the fields of a port command word, the outcomes of the
port decoder, and the round trips between an instruction and its selection.
-/

namespace Sys2Proof

open Machine

/-! ### The fields of a port command word, as parts of its number (R111) -/

theorem opsel_toNat (w : Word32) : (opsel w).toNat = w.toNat % 16 := by
  simp [opsel]

theorem imm8_toNat (w : Word32) : (imm8 w).toNat = w.toNat / 256 % 256 := by
  simp [imm8, Nat.shiftRight_eq_div_pow]

theorem reField_toNat (w : Word32) : (reField w).toNat = w.toNat / 65536 % 2 := by
  simp [reField, BitVec.getLsbD, Nat.toNat_testBit]

theorem reservedClear_iff (w : Word32) : reservedClear w = true ↔ w.toNat / 16 % 16 = 0 ∧ w.toNat / 131072 = 0 := by
  have hw := w.isLt
  simp only [reservedClear, Bool.and_eq_true, beq_iff_eq, ← BitVec.toNat_inj, BitVec.extractLsb'_toNat,
    Nat.shiftRight_eq_div_pow, BitVec.ofNat_eq_ofNat, BitVec.toNat_ofNat]
  omega

theorem extract_eq_zero_of_and_eq_zero {n start len : Nat} {w mask : BitVec n} (h : w &&& mask = 0)
    (hones : mask.extractLsb' start len = BitVec.allOnes len) : w.extractLsb' start len = 0 := by
  calc w.extractLsb' start len
      = (w &&& mask).extractLsb' start len := by rw [BitVec.extractLsb'_and, hones, BitVec.and_allOnes]
    _ = 0 := by rw [h, BitVec.ofNat_eq_ofNat, BitVec.extractLsb'_zero]; rfl

/-- A word with a reserved bit set meets the mask of the reserved bits. -/
theorem reservedMask_ne_zero {w : Word32} (h : reservedClear w = false) : w &&& 0xFFFE00F0 ≠ 0 := by
  intro hzero
  have hlow : w.extractLsb' 4 4 = 0 := extract_eq_zero_of_and_eq_zero hzero rfl
  have hhigh : w.extractLsb' 17 15 = 0 := extract_eq_zero_of_and_eq_zero hzero rfl
  simp [reservedClear, hlow, hhigh] at h

theorem toNat_append_eq {m n : Nat} (x : BitVec m) (y : BitVec n) : (x ++ y).toNat = x.toNat * 2 ^ n + y.toNat := by
  rw [BitVec.toNat_append, ← Nat.shiftLeft_add_eq_or_of_lt y.isLt, Nat.shiftLeft_eq]

theorem portWord_toNat (op : BitVec 4) (imm : Byte) (re : Bool) :
    (portWord op imm re).toNat = op.toNat + 256 * imm.toNat + 65536 * re.toNat := by
  simp only [portWord, toNat_append_eq, BitVec.toNat_ofBool, BitVec.ofNat_eq_ofNat, BitVec.toNat_ofNat]
  omega

@[simp] theorem opsel_portWord (op : BitVec 4) (imm : Byte) (re : Bool) : opsel (portWord op imm re) = op := by
  apply BitVec.eq_of_toNat_eq
  rw [opsel_toNat, portWord_toNat]
  omega

@[simp] theorem imm8_portWord (op : BitVec 4) (imm : Byte) (re : Bool) : imm8 (portWord op imm re) = imm := by
  apply BitVec.eq_of_toNat_eq
  rw [imm8_toNat, portWord_toNat]
  omega

@[simp] theorem reField_portWord (op : BitVec 4) (imm : Byte) (re : Bool) : reField (portWord op imm re) = re := by
  rw [Bool.eq_iff_iff, ← Bool.toNat_eq_one, ← Bool.toNat_eq_one, reField_toNat, portWord_toNat]
  have hre := re.toNat_lt
  omega

@[simp] theorem reservedClear_portWord (op : BitVec 4) (imm : Byte) (re : Bool) :
    reservedClear (portWord op imm re) = true := by
  rw [reservedClear_iff, portWord_toNat]
  have hre := re.toNat_lt
  omega

/-- A word whose reserved bits are clear is fixed by its three fields. -/
theorem portWord_fields {w : Word32} (h : reservedClear w = true) : portWord (opsel w) (imm8 w) (reField w) = w := by
  obtain ⟨hlow, hhigh⟩ := (reservedClear_iff w).mp h
  apply BitVec.eq_of_toNat_eq
  rw [portWord_toNat, opsel_toNat, imm8_toNat, reField_toNat]
  omega

/-! ### What the port decoder answers -/

/-- A word's answer: a rejection of an illegal word, or the instruction whose encoding is this word. -/
def PortAnswer (w : Word32) (r : Except DecodeError Instr) : Prop :=
  (∃ e, r = .error e ∧ IllegalWord w) ∨ ∃ i, r = .ok i ∧ ∀ cfg, encode cfg i = .port w

theorem illegalWord_of_reserved {w : Word32} (h : reservedClear w = false) : IllegalWord w :=
  .inr (.inl (reservedMask_ne_zero h))

theorem illegalWord_of_opsel {w : Word32} (h : 9 ≤ (opsel w).toNat) : IllegalWord w :=
  .inl (opsel_toNat w ▸ h)

theorem illegalWord_of_imm8 {w : Word32} (h : imm8 w ≠ 0) (h3 : (opsel w).toNat ≠ 3) (h4 : (opsel w).toNat ≠ 4) :
    IllegalWord w := by
  rw [opsel_toNat] at h3 h4
  have himm : w.toNat / 256 % 256 ≠ 0 := imm8_toNat w ▸ fun hz => h (BitVec.eq_of_toNat_eq hz)
  exact .inr (.inr (.inl ⟨himm, h3, h4⟩))

theorem illegalWord_of_re {w : Word32} (h : reField w = true) (h4 : (opsel w).toNat ≠ 4) : IllegalWord w := by
  rw [opsel_toNat] at h4
  have hre : w.toNat / 65536 % 2 ≠ 0 := by simp [← reField_toNat, h]
  exact .inr (.inr (.inr ⟨hre, h4⟩))

/-- The answer of a row that uses neither `imm8` nor `re`. -/
theorem plainOp_answer {w : Word32} {op : BitVec 4} {i : Instr} (hclear : reservedClear w = true)
    (hop : (opsel w).toNat = op.toNat) (h3 : op.toNat ≠ 3) (h4 : op.toNat ≠ 4)
    (henc : ∀ cfg, encode cfg i = .port (portWord op 0 false)) : PortAnswer w (plainOp w i) := by
  unfold plainOp
  split
  · next himm => exact .inl ⟨_, rfl, illegalWord_of_imm8 (by simpa using himm) (hop ▸ h3) (hop ▸ h4)⟩
  · next himm =>
    split
    · next hre => exact .inl ⟨_, rfl, illegalWord_of_re hre (hop ▸ h4)⟩
    · next hre =>
      have himm0 : imm8 w = 0 := by simpa using himm
      have hw := portWord_fields hclear
      rw [BitVec.eq_of_toNat_eq hop, himm0, (Bool.not_eq_true _).mp hre] at hw
      exact .inr ⟨i, rfl, hw ▸ henc⟩

theorem decodePort_answer (w : Word32) : PortAnswer w (decodePort w) := by
  unfold decodePort
  split
  · next hclear => exact .inl ⟨_, rfl, illegalWord_of_reserved (by simpa using hclear)⟩
  next hclear =>
  have hclear : reservedClear w = true := by simpa using hclear
  have hw := portWord_fields hclear
  -- The rows of `opsel` 0 to 8 in order, then the reserved values.
  split
  case h_1 hop => exact plainOp_answer (op := 0) hclear hop (by decide) (by decide) fun _ => rfl
  case h_2 hop => exact plainOp_answer (op := 1) hclear hop (by decide) (by decide) fun _ => rfl
  case h_3 hop => exact plainOp_answer (op := 2) hclear hop (by decide) (by decide) fun _ => rfl
  case h_4 hop =>
    split
    · next hre => exact .inl ⟨_, rfl, illegalWord_of_re hre (by omega)⟩
    · next hre =>
      rw [BitVec.eq_of_toNat_eq (y := 3) hop, (Bool.not_eq_true _).mp hre] at hw
      exact .inr ⟨_, rfl, fun _ => congrArg Code.port hw⟩
  case h_5 hop =>
    rw [BitVec.eq_of_toNat_eq (y := 4) hop] at hw
    exact .inr ⟨_, rfl, fun _ => congrArg Code.port hw⟩
  case h_6 hop => exact plainOp_answer (op := 5) hclear hop (by decide) (by decide) fun _ => rfl
  case h_7 hop => exact plainOp_answer (op := 6) hclear hop (by decide) (by decide) fun _ => rfl
  case h_8 hop => exact plainOp_answer (op := 7) hclear hop (by decide) (by decide) fun _ => rfl
  case h_9 hop => exact plainOp_answer (op := 8) hclear hop (by decide) (by decide) fun _ => rfl
  case h_10 h0 h1 h2 h3 h4 h5 h6 h7 h8 => exact .inl ⟨_, rfl, illegalWord_of_opsel (by grind)⟩

/-! ### The encoding of an instruction -/

theorem encode_command (cfg : Config) (k : Command) : encode cfg k.instr = .command (cfg.code k) := by
  cases k <;> rfl

/-- Every encoding is legal: the family `LegalEncoding`, and the code of a command for the commands. -/
theorem legalCode_encode (cfg : Config) (i : Instr) : Laws.LegalCode cfg (encode cfg i) := by
  cases i using Instr.port_or_command with
  | reset => exact Laws.LegalEncoding.reset cfg
  | encode => exact Laws.LegalEncoding.encode cfg
  | checksum => exact Laws.LegalEncoding.checksum cfg
  | pushByte b => exact Laws.LegalEncoding.pushByte b cfg
  | buildRequest c re => exact Laws.LegalEncoding.buildRequest c re cfg
  | buildResponse => exact Laws.LegalEncoding.buildResponse cfg
  | onReceive => exact Laws.LegalEncoding.onReceive cfg
  | txFrame => exact Laws.LegalEncoding.txFrame cfg
  | readStatus => exact Laws.LegalEncoding.readStatus cfg
  | command k => exact encode_command cfg k ▸ List.mem_map_of_mem k.mem_all

theorem decodePort_pushByte (b : Byte) : decodePort (portWord 3 b false) = .ok (.pushByte b) := by
  simp [decodePort]

theorem decodePort_buildRequest (c : Byte) (re : Bool) :
    decodePort (portWord 4 c re) = .ok (.buildRequest c re) := by
  simp [decodePort]

theorem decodeCommand_code {cfg : Config} (h : cfg.wf = true) (k : Command) :
    decodeCommand cfg (cfg.code k) = .ok k.instr := by
  simp [decodeCommand, Config.commandOf_code cfg h k]

/-- A command byte that decodes is the code of the command it decodes to (R90). -/
theorem encode_of_decodeCommand {cfg : Config} {b : Byte} {i : Instr} (h : decodeCommand cfg b = .ok i) :
    encode cfg i = .command b := by
  unfold decodeCommand at h
  split at h
  · next k hk =>
    cases h
    rw [encode_command, Config.code_of_commandOf cfg b k hk]
  · cases h

/-- Settles O4: the decoder reads the fields of a port word back, and a command's code selects that command. -/
theorem decodeOfEncode : Obligations.DecodeOfEncode := by
  intro cfg hwf i
  cases i using Instr.port_or_command with
  | reset | encode | checksum | buildResponse | onReceive | txFrame | readStatus => rfl
  | pushByte b => exact decodePort_pushByte b
  | buildRequest c re => exact decodePort_buildRequest c re
  | command k => exact encode_command cfg k ▸ decodeCommand_code hwf k

/-- Settles O2: an answer is a rejection of an illegal word or an encoding, and encodings are legal. -/
theorem portWordRejectedExactlyWhenIllegal : Obligations.PortWordRejectedExactlyWhenIllegal := by
  intro w
  obtain ⟨e, he, hill⟩ | ⟨i, hi, henc⟩ := decodePort_answer w
  · exact ⟨fun _ => hill, fun _ => ⟨e, he⟩⟩
  · have hlegal := legalCode_encode Config.default i
    rw [henc] at hlegal
    exact ⟨fun ⟨e, he⟩ => by simp [hi] at he, fun hill => absurd hill hlegal⟩

/-- Settles O5: a port word by the answer of its decoder, a command byte by the code of its command. -/
theorem encodeOfDecode : Obligations.EncodeOfDecode := by
  intro cfg c i h
  cases c with
  | port w =>
    obtain ⟨e, he, -⟩ | ⟨j, hj, henc⟩ := decodePort_answer w
    · cases he.symm.trans h
    · cases hj.symm.trans h
      exact henc cfg
  | command b => exact encode_of_decodeCommand h

/-- Settles O6: each row's word and byte evaluated by the decoder. -/
theorem tableWordsDecode : Obligations.TableWordsDecode :=
  ⟨by decide, by decide, by decide, by decide, by decide, by decide, by decide, by decide⟩

end Sys2Proof
end

section
/-!
PROOFS. The extraction of a field from a received payload (spec 30_encoding.md R105): `val_N` inverts `bytes_N` (R26).
-/

namespace Sys2Proof.Machine

/-- `le_N` byte by byte, as R26 writes it. -/
theorem leBytes_eq_map (n v : Nat) : leBytes n v = (List.range n).map fun i => BitVec.ofNat 8 (v / 256 ^ i) := by
  induction n generalizing v with
  | zero => rfl
  | succ n ih => simp [leBytes, ih, List.range_succ_eq_map, Nat.div_div_eq_div_mul, Nat.pow_succ']

theorem leVal_leBytes {n v : Nat} (h : v < 256 ^ n) : leVal (leBytes n v) = v := by
  induction n generalizing v with
  | zero => exact (Nat.lt_one_iff.mp h).symm
  | succ n ih =>
    have hdiv : v / 256 < 256 ^ n := Nat.div_lt_of_lt_mul (Nat.pow_succ' ▸ h)
    simp only [leBytes, leVal, ih hdiv, BitVec.toNat_ofNat]
    omega

/-- `val_N` inverts `bytes_N` (R26). -/
theorem valN_bytesN (e : Endian) {n v : Nat} (h : v < 256 ^ n) : valN e (bytesN e n v) = v := by
  cases e with
  | le => exact leVal_leBytes h
  | be => simp only [valN, bytesN, List.reverse_reverse, leVal_leBytes h]

/-- A field that stands in the payload reads as its value (R105). -/
theorem fieldN_of_bytesN {e : Endian} {n v off : Nat} {p : Bytes} (hfit : off + n ≤ p.length) (hv : v < 256 ^ n)
    (hbytes : (p.drop off).take n = bytesN e n v) : fieldN e n p off = v := by
  rw [fieldN, if_pos hfit, hbytes, valN_bytesN e hv]

/-- Settles O49: a field in the payload by `fieldN_of_bytesN`, the others by the length test of their definitions. -/
theorem fieldExtraction : Obligations.FieldExtraction := by
  intro e p off n
  refine ⟨fun hfit v hv hbytes => fieldN_of_bytesN hfit hv ?_, fun hshort => if_neg (Nat.not_le_of_lt hshort),
    fun hfit => if_pos hfit, fun hshort => if_neg (Nat.not_le_of_lt hshort), ?_, ?_⟩
  · cases e <;> simpa only [bytesN, leBytes_eq_map] using hbytes
  · cases p <;> rfl
  · cases p <;> rfl

end Sys2Proof.Machine
end

section
/-!
PROOFS. A command byte outside the catalog, issued as a selection (spec 30_encoding.md R91, 42_dispatch.md R200).
-/

namespace Sys2Proof

open Machine

theorem Config.commandOf_eq_none {cfg : Config} {b : Byte} (h : ∀ k, cfg.code k ≠ b) : cfg.commandOf b = none :=
  List.find?_eq_none.mpr fun k _ => by simpa using h k

theorem decodeCommand_uncatalogued {cfg : Config} {b : Byte} (h : ∀ k, cfg.code k ≠ b) :
    decodeCommand cfg b = .error .uncatalogued := by
  simp [decodeCommand, Config.commandOf_eq_none h]

namespace Machine

/-- An issued selection that does not decode is run on the state with its operation latched onto the port. -/
theorem step_of_decode_error {s : State} {r : PortRequest} {rest : List PortRequest} {e : DecodeError}
    (hp : s.pending = r :: rest) (hd : decode s.cfg r.code = .error e) :
    step s = runUndecoded r.code (s.latch r rest) := by
  simp [step, hp, hd]

/-! ### The action of a command run as an instruction, one equation for each (log entry 2) -/

section
variable {s : State} (code : Byte) (req : State → Built) (resp : Packet → State → Built) (recv : Packet → State → Routed)

theorem runCommand_faulted (hf : s.fault ≠ .noFault) : runCommand code req resp recv s = .next s.reportFault :=
  unlessFaulted_faulted s _ hf

theorem runCommand_request {re : Bool} (hf : s.fault = .noFault) (ha : s.data.action = .request re) :
    runCommand code req resp recv s = .next (finishRequest code re (req s) s) := by
  simp [runCommand, unlessFaulted_ok _ _ hf, ha]

theorem runCommand_response (hf : s.fault = .noFault) (ha : s.data.action = .response) :
    runCommand code req resp recv s
      = withPacket s fun q => .next (finishResponse { q with cmd := code } (resp q s) s) := by
  simp [runCommand, unlessFaulted_ok _ _ hf, ha]

theorem runCommand_receive (hf : s.fault = .noFault) (ha : s.data.action = .receive) :
    runCommand code req resp recv s = withPacket s fun q => .next (finishReceive (recv q s) s) := by
  simp [runCommand, unlessFaulted_ok _ _ hf, ha]

end

/-- The held-packet check on an operation that always goes on. -/
theorem withPacket_next (s : State) (f : Packet → State) :
    withPacket s (fun q => .next (f q))
      = .next (if s.rxValid = false then s.raiseFault .noPacket [] else f s.rxPkt) := by
  obtain ⟨hv, e⟩ | ⟨hv, e⟩ := withPacket_cases s fun q => .next (f q) <;> simp [e, hv]

/-- A response without payload fits every frame: none for a packet without RE, else the empty acknowledgement (R182). -/
theorem finishResponse_empty {s : State} (h : 8 ≤ s.cfg.frameMax) (q : Packet) :
    finishResponse q Built.empty s
      = s.drive (.response (if wantsResponse s.cfg q.flags = false then none
          else some (responsePacket s.cfg q []))) [] := by
  obtain ⟨hw, e⟩ | ⟨code, hpl, -⟩ | ⟨pl, hpl, -, hlong, -⟩ | ⟨pl, hpl, hw, -, e⟩ := finishResponse_cases q Built.empty s
  · rw [e, if_pos hw]
  · cases hpl
  · cases hpl
    exact absurd h (Nat.not_le_of_lt hlong)
  · cases hpl
    rw [e, if_neg (by simp [hw])]
    rfl

/-- Settles O48: the byte does not decode, and each action of `runUncatalogued` ends as R200 says; `State.latch`,
`State.raiseFault`, `State.reportFault` and `State.drive` are the updates the statement writes out. -/
theorem uncataloguedCommandByte : Obligations.UncataloguedCommandByte := by
  intro s r rest b hwf hp hcode hb
  have hstep : step s = runUncatalogued b (s.latch r rest) := by
    have hd : decode s.cfg r.code = .error .uncatalogued := hcode ▸ decodeCommand_uncatalogued hb
    rw [step_of_decode_error hp hd, hcode]
    rfl
  have hmax : 8 ≤ (s.latch r rest).cfg.frameMax := (Config.frameMax_bounds hwf).1
  rw [hstep]
  refine ⟨fun hf => ?_, fun hf re ha => ?_, fun hf ha => ?_, fun hf ha => ?_⟩
  · exact runCommand_faulted _ _ _ _ hf
  · exact runCommand_request _ _ _ _ hf ha
  · rw [runUncatalogued, runCommand_response (s := s.latch r rest) _ _ _ _ hf ha, withPacket_next]
    simp only [ackResponse, finishResponse_empty hmax]
    rfl
  · rw [runUncatalogued, runCommand_receive (s := s.latch r rest) _ _ _ _ hf ha, withPacket_next]
    rfl

end Machine
end Sys2Proof
end

section
/-!
PROOFS. The Frame Codec (spec 40_codec.md): the checksum as an exclusive-or in which every byte counts alike, and what ENCODE
and CHECKSUM do, one equation for each outcome.
-/

namespace Sys2Proof.Machine

/-! ### The checksum (R130, R135) -/

@[simp] theorem chk_nil (cfg : Config) : chk cfg [] = cfg.cksumInit := rfl

theorem chk_concat (cfg : Config) (s : Bytes) (b : Byte) : chk cfg (s ++ [b]) = chk cfg s ^^^ b :=
  List.foldl_append

/-- The order of the bytes does not matter, because exclusive-or is commutative and associative. -/
theorem chk_perm (cfg : Config) {s t : Bytes} (h : s.Perm t) : chk cfg s = chk cfg t :=
  h.foldl_eq _

/-- A first byte counts as a last byte does. -/
@[simp] theorem chk_cons (cfg : Config) (b : Byte) (s : Bytes) : chk cfg (b :: s) = chk cfg s ^^^ b :=
  (chk_perm cfg (List.perm_append_singleton b s).symm).trans (chk_concat cfg s b)

/-- Both parts start at CKSUM_INIT, so one of the two start values is taken out again. -/
theorem chk_append (cfg : Config) (s t : Bytes) : chk cfg (s ++ t) = chk cfg s ^^^ chk cfg t ^^^ cfg.cksumInit := by
  induction s with
  | nil => rw [List.nil_append, chk_nil, BitVec.xor_comm cfg.cksumInit, BitVec.xor_assoc, BitVec.xor_self, BitVec.xor_zero]
  | cons b s ih =>
    simp only [List.cons_append, chk_cons, ih]
    ac_rfl

/-- A byte corrupted by `d` moves the checksum by `d`. -/
theorem chk_set (cfg : Config) (d : Byte) {s : Bytes} {i : Nat} (h : i < s.length) :
    chk cfg (s.set i (s.getD i 0 ^^^ d)) = chk cfg s ^^^ d := by
  induction s generalizing i with
  | nil => simp at h
  | cons b s ih =>
    cases i with
    | zero => simp only [List.set_cons_zero, List.getD_cons_zero, chk_cons, BitVec.xor_assoc]
    | succ i =>
      simp only [List.set_cons_succ, List.getD_cons_succ, chk_cons, ih (Nat.lt_of_succ_lt_succ h)]
      ac_rfl

/-- Equal corruptions of two bytes cancel: the second finds its byte as it was. -/
theorem chk_set_set (cfg : Config) (d : Byte) {s : Bytes} {i j : Nat} (hi : i < s.length) (hj : j < s.length)
    (hne : i ≠ j) : chk cfg ((s.set i (s.getD i 0 ^^^ d)).set j (s.getD j 0 ^^^ d)) = chk cfg s := by
  have hbyte : s.getD j 0 = (s.set i (s.getD i 0 ^^^ d)).getD j 0 := by
    simp only [List.getD_eq_getElem?_getD, List.getElem?_set_ne hne]
  calc chk cfg ((s.set i (s.getD i 0 ^^^ d)).set j (s.getD j 0 ^^^ d))
      = chk cfg (s.set i (s.getD i 0 ^^^ d)) ^^^ d := by rw [hbyte, chk_set cfg d (by simpa using hj)]
    _ = chk cfg s ^^^ d ^^^ d := by rw [chk_set cfg d hi]
    _ = chk cfg s := by rw [BitVec.xor_assoc, BitVec.xor_self, BitVec.xor_zero]

/-- Settles O16: `chk` as a fold, read from its end, and the exchange of the bytes. -/
theorem chkIsRunningXor : Obligations.ChkIsRunningXor :=
  fun cfg => ⟨chk_nil cfg, chk_concat cfg, fun _ _ => chk_perm cfg⟩

/-- Settles O17: the laws of concatenation, of one corrupted byte, and of two. -/
theorem checksumLaws : Obligations.ChecksumLaws :=
  fun cfg => ⟨chk_append cfg, fun _ _ d => chk_set cfg d, fun _ _ _ d => chk_set_set cfg d⟩

/-! ### ENCODE (R131 to R133) and CHECKSUM (R134) -/

section
variable {s : State}

theorem execEncode_faulted (hf : s.fault ≠ .noFault) : execEncode s = .next s.reportFault :=
  unlessFaulted_faulted s _ hf

theorem execEncode_overflow (hf : s.fault = .noFault) (hlong : s.cfg.frameMax < 8 + s.data.packet.payload.length) :
    execEncode s = .next (s.raiseFault .frameOverflow []) := by
  rw [execEncode, unlessFaulted_ok s _ hf]
  exact if_pos (decide_eq_true hlong)

theorem execEncode_fits (hf : s.fault = .noFault) (hfit : 8 + s.data.packet.payload.length ≤ s.cfg.frameMax) :
    execEncode s
      = .next ((s.loadFrame s.data.packet).drive (.txLen (BitVec.ofNat 8 (8 + s.data.packet.payload.length))) []) := by
  rw [execEncode, unlessFaulted_ok s _ hf]
  exact if_neg (mt of_decide_eq_true (Nat.not_lt_of_le hfit))

theorem execChecksum_faulted (hf : s.fault ≠ .noFault) : execChecksum s = .next s.reportFault :=
  unlessFaulted_faulted s _ hf

theorem execChecksum_ok (hf : s.fault = .noFault) :
    execChecksum s = .next (s.drive (.check (chk s.cfg s.data.str)) []) :=
  unlessFaulted_ok s _ hf

end

/-- The frame stands at the start of `tx_buf` (R80). -/
theorem readBytes_loadFrame (s : State) (p : Packet) :
    Memory.readBytes (s.loadFrame p).txBuf 0 (8 + p.payload.length) = frameBytes s.cfg p := by
  rw [← frameBytes_length s.cfg p]
  exact Memory.readBytes_writeBytes s.txBuf 0 (frameBytes s.cfg p)

/-- ENCODE writes no byte beyond the frame (R131). -/
theorem read_loadFrame_beyond (s : State) (p : Packet) {a : Nat} (h : 8 + p.payload.length ≤ a) :
    Memory.read (s.loadFrame p).txBuf a = Memory.read s.txBuf a :=
  Memory.read_writeBytes_other _ _ _ _ (.inr (by rwa [frameBytes_length, Nat.zero_add]))

/-- Settles O18, by the three outcomes of `execEncode`; `frameBytes`, `State.loadFrame`, `State.drive`, `State.raiseFault`
and `State.reportFault` are the bytes and the updates the statement writes out. -/
theorem encodeWritesTheFrame : Obligations.EncodeWritesTheFrame := by
  refine ⟨by decide, fun s => ⟨execEncode_faulted, execEncode_overflow, fun hf hfit => ?_⟩⟩
  exact ⟨_, execEncode_fits hf hfit, rfl, readBytes_loadFrame s _, fun _ => read_loadFrame_beyond s _⟩

/-- Settles O19, by the two outcomes of `execChecksum`. -/
theorem checksumOutputsChk : Obligations.ChecksumOutputsChk :=
  ⟨by decide, fun _ => ⟨execChecksum_faulted, execChecksum_ok⟩⟩

end Sys2Proof.Machine
end

section
/-!
PROOFS. The decoder over the list of held bytes (spec 41_decoder.md sections 2 to 6): PUSH_BYTE appends a byte and then acts
on a verdict that the held bytes alone determine, and the list decoder gives the same verdict.
-/

namespace Sys2Proof.Machine

/-! ### The held bytes -/

@[simp] theorem State.held_length (s : State) : s.held.length = s.rc.toNat := Memory.readBytes_length _ _ _

theorem State.getD_held (s : State) {i : Nat} (h : i < s.rc.toNat) : s.held.getD i 0 = Memory.read s.rxBuf i := by
  have hi : i < (Memory.readBytes s.rxBuf 0 s.rc.toNat).length := by simpa using h
  rw [State.held, List.getD_eq_getElem _ _ hi, Memory.getElem_readBytes, Nat.zero_add]

theorem State.drop_held (s : State) (k : Nat) : s.held.drop k = Memory.readBytes s.rxBuf k (s.rc.toNat - k) := by
  rw [State.held, Memory.readBytes_drop, Nat.zero_add]

theorem State.held_eq_nil {s : State} (h : s.rc = 0) : s.held = [] :=
  List.length_eq_zero_iff.mp (by simp [h])

theorem State.append_rc_toNat {s : State} (b : Byte) (h : s.rc.toNat < 255) :
    (s.append b).rc.toNat = s.rc.toNat + 1 := by
  rw [State.append_rc, BitVec.toNat_add]
  exact Nat.mod_eq_of_lt (by simp; omega)

/-- The append step adds its byte to the attempt (R151). -/
theorem State.held_append {s : State} (b : Byte) (h : s.rc.toNat < 255) : (s.append b).held = s.held ++ [b] := by
  have hbelow : Memory.readBytes (s.append b).rxBuf 0 s.rc.toNat = s.held :=
    Memory.readBytes_congr _ _ _ _ fun i hi => Memory.read_write_other _ _ _ _ (by omega)
  rw [State.held, State.append_rc_toNat b h, Memory.readBytes_succ, hbelow, Nat.zero_add, State.append_rxBuf,
    Memory.read_write_same]

/-! ### The verdict on the held bytes -/

/-- What the decoder decides about the bytes held after the append (R164). -/
inductive Verdict
  | progress | slide | magicErr | lengthErr | checksumErr | accept

/-- The verdict on the held bytes `f`, by their number (R152 to R161). -/
def verdict (cfg : Config) (f : Bytes) : Verdict :=
  if f.length < 2 then .progress
  else if f.length = 2 then
    if magicOk cfg (f.getD 0 0) (f.getD 1 0) = true then .progress
    else if cfg.resync = .slide ∧ f.getD 1 0 = cfg.magicA then .slide
    else .magicErr
  else if f.length = 3 then
    if cfg.earlyLengthCheck = true ∧ lengthOutOfRange cfg (f.getD 2 0) = true then .lengthErr else .progress
  else if f.length = 4 ∨ f.length ≠ (f.getD 2 0).toNat then .progress
  else if f.length < 8 ∨ f.length ≠ 8 + (f.getD 5 0).toNat then .lengthErr
  else if chk cfg (f.drop 4) ≠ f.getD 3 0 then .checksumErr
  else .accept

/-- The packet of the bytes `f` of a complete frame (R162). -/
def listPacket (f : Bytes) : Packet :=
  { seq := f.getD 4 0, flags := f.getD 6 0, cmd := f.getD 7 0, payload := f.drop 8 }

/-- The event a verdict gives. -/
def Verdict.event : Verdict → RxEvent
  | .progress => .progress
  | .slide | .magicErr => .magicErr
  | .lengthErr => .lengthErr
  | .checksumErr => .checksumErr
  | .accept => .frameOk

/-- The bytes held after a verdict on `f`. -/
def Verdict.kept (f : Bytes) : Verdict → Bytes
  | .progress => f
  | .slide => [f.getD 1 0]
  | .magicErr | .lengthErr | .checksumErr | .accept => []

/-- The packet a verdict on `f` outputs. -/
def Verdict.packet (f : Bytes) : Verdict → Option Packet
  | .accept => some (listPacket f)
  | .progress | .slide | .magicErr | .lengthErr | .checksumErr => none

/-- The state after a verdict. -/
def Verdict.apply (s : State) : Verdict → State
  | .progress => s.progress (listDState .progress s.rc.toNat)
  | .slide => s.keepSecond
  | .magicErr => s.discard .magicErr
  | .lengthErr => s.discard .lengthErr
  | .checksumErr => s.discard .checksumErr
  | .accept => s.accept s.rc.toNat

section
variable {cfg : Config} {f : Bytes}

theorem verdict_first (h : f.length < 2) : verdict cfg f = .progress := if_pos h

theorem verdict_second (h : f.length = 2) :
    verdict cfg f =
      if magicOk cfg (f.getD 0 0) (f.getD 1 0) = true then .progress
      else if cfg.resync = .slide ∧ f.getD 1 0 = cfg.magicA then .slide else .magicErr := by
  simp [verdict, h]

theorem verdict_third (h : f.length = 3) :
    verdict cfg f =
      if cfg.earlyLengthCheck = true ∧ lengthOutOfRange cfg (f.getD 2 0) = true then .lengthErr else .progress := by
  simp [verdict, h]

theorem verdict_incomplete (h : 4 ≤ f.length) (hne : f.length = 4 ∨ f.length ≠ (f.getD 2 0).toNat) :
    verdict cfg f = .progress := by
  rw [verdict, if_neg (by omega), if_neg (by omega), if_neg (by omega), if_pos hne]

theorem verdict_complete (h : 5 ≤ f.length) (heq : f.length = (f.getD 2 0).toNat) :
    verdict cfg f =
      if f.length < 8 ∨ f.length ≠ 8 + (f.getD 5 0).toNat then .lengthErr
      else if chk cfg (f.drop 4) ≠ f.getD 3 0 then .checksumErr else .accept := by
  rw [verdict, if_neg (by omega), if_neg (by omega), if_neg (by omega), if_neg (by omega)]

end

/-- The decoder's classification of an appended byte is the verdict on the held bytes. -/
theorem classify_eq_apply (s : State) : s.classify = (verdict s.cfg s.held).apply s := by
  have hlen := s.held_length
  obtain ⟨hrc, e⟩ | ⟨hrc, hm, e⟩ | ⟨hrc, hm, hs, ha, e⟩ | ⟨hrc, hm, hs, e⟩ | ⟨hrc, hearly, hl, e⟩ | ⟨hrc, hl, e⟩
    | ⟨hrc, hne, e⟩ | ⟨hrc, htl, hl, e⟩ | ⟨hrc, htl, hl, hc, e⟩ | ⟨hrc, htl, hl, hc, e⟩ := classify_cases s <;> rw [e]
  · rw [verdict_first (by omega)]
    simp [Verdict.apply, listDState, hrc]
  · rw [verdict_second (by omega), s.getD_held (by omega), s.getD_held (by omega), if_pos hm]
    simp [Verdict.apply, listDState, hrc]
  · rw [verdict_second (by omega), s.getD_held (by omega), s.getD_held (by omega), hm, if_neg Bool.false_ne_true,
      if_pos ⟨hs, ha⟩]
    rfl
  · rw [verdict_second (by omega), s.getD_held (by omega), s.getD_held (by omega), hm, if_neg Bool.false_ne_true,
      if_neg hs]
    rfl
  · rw [verdict_third (by omega), s.getD_held (by omega), if_pos ⟨hearly, hl⟩]
    rfl
  · rw [verdict_third (by omega), s.getD_held (by omega), if_neg hl]
    simp [Verdict.apply, listDState, hrc]
  · have hne' : s.held.length = 4 ∨ s.held.length ≠ (s.held.getD 2 0).toNat := by
      rw [s.getD_held (by omega), hlen]
      exact hne.imp_right (mt BitVec.eq_of_toNat_eq)
    rw [verdict_incomplete (by omega) hne']
    simp only [Verdict.apply, listDState]
    rw [if_neg (by omega), if_neg (by omega)]
  · rw [verdict_complete (by omega) (by rw [s.getD_held (by omega), hlen, ← htl])]
    have hl' : s.held.length < 8 ∨ s.held.length ≠ 8 + (s.held.getD 5 0).toNat := by
      rw [hlen]
      by_cases h8 : s.rc.toNat < 8
      · exact .inl h8
      · rw [s.getD_held (by omega)]
        exact hl
    rw [if_pos hl']
    rfl
  all_goals
    rw [verdict_complete (by omega) (by rw [s.getD_held (by omega), hlen, ← htl]), hlen, s.getD_held (i := 5) (by omega),
      s.getD_held (i := 3) (by omega), s.drop_held, if_neg (by omega)]
  · rw [if_pos hc]
    rfl
  · rw [if_neg (not_not_intro hc)]
    rfl

/-- The list decoder gives the same verdict on the bytes then held. -/
theorem listPush_eq (cfg : Config) (h : Bytes) (b : Byte) :
    listPush cfg h b =
      ((verdict cfg (h ++ [b])).kept (h ++ [b]), (verdict cfg (h ++ [b])).event,
        (verdict cfg (h ++ [b])).packet (h ++ [b])) := by
  match h with
  | [] => rfl
  | [x] =>
    rw [verdict_second rfl]
    simp only [listPush, List.cons_append, List.nil_append, List.getD_cons_zero, List.getD_cons_succ]
    split_ifs <;> rfl
  | [x, y] =>
    rw [verdict_third rfl]
    simp only [listPush, List.cons_append, List.nil_append, List.getD_cons_zero, List.getD_cons_succ, lengthOutOfRange,
      Bool.or_eq_true, decide_eq_true_eq]
    split_ifs <;> rfl
  | [x, y, z] => rfl
  | x :: y :: z :: w :: r =>
    obtain ⟨a, l, hl⟩ := List.exists_cons_of_ne_nil (List.append_ne_nil_of_right_ne_nil r (List.cons_ne_nil b []))
    simp only [listPush, List.cons_append, hl]
    generalize hf : x :: y :: z :: w :: a :: l = f
    have hlen : 5 ≤ f.length := by simp [← hf]
    by_cases htl : f.length = (f.getD 2 0).toNat
    · rw [verdict_complete hlen htl, if_neg (not_not_intro htl)]
      split_ifs <;> rfl
    · rw [verdict_incomplete (by omega) (.inr htl), if_pos htl]
      rfl

/-! ### PUSH_BYTE -/

theorem exec_pushByte_of_room {s : State} (b : Byte) (hf : s.fault = .noFault) (hroom : s.rc.toNat < s.cfg.frameMax) :
    exec (.pushByte b) s = .next (s.append b).classify.drivePush := by
  obtain ⟨hf', -⟩ | ⟨-, hfull, -⟩ | ⟨-, hbad, -⟩ | ⟨-, -, e⟩ := execPushByte_cases b s
  · exact absurd hf hf'
  · omega
  · omega
  · exact e

theorem exec_pushByte_of_full {s : State} (b : Byte) (hf : s.fault = .noFault) (hfull : s.rc.toNat = s.cfg.frameMax) :
    exec (.pushByte b) s = .next (s.raiseFault .decodeOverrun []) := by
  obtain ⟨hf', -⟩ | ⟨-, -, e⟩ | ⟨-, hbad, -⟩ | ⟨-, hroom, -⟩ := execPushByte_cases b s
  · exact absurd hf hf'
  · exact e
  · omega
  · omega

/-- `t` is the state `s` goes on to when the list decoder answers `r` (R150, R164). -/
structure Pushed (s : State) (r : Bytes × RxEvent × Option Packet) (t : State) : Prop where
  held : t.held = r.1
  rc : t.rc.toNat = r.1.length
  event : t.lastRxEvent = r.2.1
  dstate : t.dstate = listDState r.2.1 r.1.length
  valid : t.rxValid = r.2.2.isSome
  pkt : t.rxPkt = r.2.2.getD s.rxPkt
  out : t.out = { status := .ok, val := .push r.2.2 r.2.1, asks := [] }
  frame : t = { s with
    rc := t.rc, dstate := t.dstate, rxBuf := t.rxBuf, rxValid := t.rxValid, rxPkt := t.rxPkt,
    lastRxEvent := t.lastRxEvent, out := t.out }

/-- The packet read out of the buffer is that of the held bytes (R162). -/
theorem State.framePacket_eq_listPacket {s : State} (h : 8 ≤ s.rc.toNat) :
    framePacket s.rxBuf s.rc.toNat = listPacket s.held := by
  rw [framePacket, listPacket, s.getD_held (by omega), s.getD_held (by omega), s.getD_held (by omega), s.drop_held]

theorem State.held_keepSecond (s : State) : s.keepSecond.held = [Memory.read s.rxBuf 1] := by
  simp [State.held, Memory.readBytes]

/-- Only a second byte is kept (R156). -/
theorem length_of_verdict_slide {cfg : Config} {f : Bytes} (h : verdict cfg f = .slide) : f.length = 2 := by
  unfold verdict at h
  split_ifs at h
  assumption

/-- A frame that is accepted has at least the eight bytes of its headers (R161). -/
theorem length_of_verdict_accept {cfg : Config} {f : Bytes} (h : verdict cfg f = .accept) : 8 ≤ f.length := by
  by_contra hlen
  unfold verdict at h
  split_ifs at h
  omega

/-- PUSH_BYTE is the list decoder on the held bytes (R150 to R164). -/
theorem exec_pushByte_pushed {s : State} (b : Byte) (hf : s.fault = .noFault) (hroom : s.rc.toNat < s.cfg.frameMax)
    (hmax : s.cfg.frameMax ≤ 255) : ∃ t, exec (.pushByte b) s = .next t ∧ Pushed s (listPush s.cfg s.held b) t := by
  have hheld := State.held_append b (s := s) (by omega)
  have hlen := (s.append b).held_length
  refine ⟨_, exec_pushByte_of_room b hf hroom, ?_⟩
  rw [classify_eq_apply, listPush_eq, ← hheld, State.append_cfg]
  generalize hv : verdict s.cfg (s.append b).held = v
  cases v with
  | progress => exact ⟨rfl, hlen.symm, rfl, by rw [Verdict.kept, hlen]; rfl, rfl, rfl, rfl, rfl⟩
  | slide =>
    have h2 := length_of_verdict_slide hv
    have hkept : (s.append b).keepSecond.held = [(s.append b).held.getD 1 0] := by
      rw [State.held_keepSecond, (s.append b).getD_held (by omega)]
    exact ⟨hkept, rfl, rfl, rfl, rfl, rfl, rfl, rfl⟩
  | magicErr => exact ⟨rfl, rfl, rfl, rfl, rfl, rfl, rfl, rfl⟩
  | lengthErr => exact ⟨rfl, rfl, rfl, rfl, rfl, rfl, rfl, rfl⟩
  | checksumErr => exact ⟨rfl, rfl, rfl, rfl, rfl, rfl, rfl, rfl⟩
  | accept =>
    have hpkt := (s.append b).framePacket_eq_listPacket (hlen ▸ length_of_verdict_accept hv)
    exact ⟨rfl, rfl, rfl, rfl, rfl, hpkt,
      congrArg (fun q => ({ status := .ok, val := .push (some q) .frameOk, asks := [] } : PortOut)) hpkt, rfl⟩

/-- Settles O20: `Pushed` is the list of what the statement says of the next state. -/
theorem pushByteRefinesListDecoder : Obligations.PushByteRefinesListDecoder := by
  intro s b hf hroom hmax
  obtain ⟨t, e, ⟨hheld, hrc, hevent, hdstate, hvalid, hpkt, hout, hframe⟩⟩ := exec_pushByte_pushed b hf hroom hmax
  exact ⟨t, e, hheld, hrc, hevent, hdstate, hvalid, hpkt, hout, hframe⟩

/-- Settles O25; `State.raiseFault` is the update the statement writes out. -/
theorem pushByteOverrun : Obligations.PushByteOverrun := fun _ b hf hfull => exec_pushByte_of_full b hf hfull

end Sys2Proof.Machine
end

section
/-!
PROOFS. One byte of the decoder, position by position (spec 41_decoder.md sections 2 to 4): the verdict on the attempt with
its new byte, and the next state that goes with it.
-/

namespace Sys2Proof.Machine

/-! ### The attempt with its new byte -/

section
variable {s : State} {b : Byte}

theorem State.getD_held_concat_of_lt {i : Nat} (h : i < s.rc.toNat) :
    (s.held ++ [b]).getD i 0 = Memory.read s.rxBuf i := by
  rw [List.getD_append _ _ _ _ (by simpa using h), s.getD_held h]

theorem State.getD_held_concat_last {i : Nat} (h : i = s.rc.toNat) : (s.held ++ [b]).getD i 0 = b := by
  rw [List.getD_append_right _ _ _ _ (by simp [h])]
  simp [h]

theorem exec_pushByte_eq (hf : s.fault = .noFault) (hroom : s.rc.toNat < s.cfg.frameMax) (hmax : s.rc.toNat < 255) :
    exec (.pushByte b) s = .next ((verdict s.cfg (s.held ++ [b])).apply (s.append b)).drivePush := by
  rw [exec_pushByte_of_room b hf hroom, classify_eq_apply, State.held_append b hmax, State.append_cfg]

/-- The append step at position `n` (R151). -/
theorem State.append_eq {n : Nat} (h : s.rc.toNat = n) :
    s.append b = { s with rxValid := false, rxBuf := Memory.write s.rxBuf n b, rc := BitVec.ofNat 8 (n + 1) } := by
  have hrc : s.rc + 1 = BitVec.ofNat 8 (n + 1) := by
    apply BitVec.eq_of_toNat_eq
    rw [BitVec.toNat_add, BitVec.toNat_ofNat, h]
    rfl
  rw [State.append, h, hrc]

end

/-! ### The magic comparison (R153) -/

theorem magicOk_any {cfg : Config} (h : cfg.magicCheck = .any) (x y : Byte) :
    magicOk cfg x y = true ↔ x = cfg.magicA ∧ y = cfg.magicB := by
  simp [magicOk, h]

theorem magicOk_both {cfg : Config} (h : cfg.magicCheck = .both) (x y : Byte) :
    magicOk cfg x y = true ↔ ¬(x ≠ cfg.magicA ∧ y ≠ cfg.magicB) := by
  simp [magicOk, h, or_iff_not_imp_left]

theorem lengthOutOfRange_iff (cfg : Config) (tl : Byte) :
    lengthOutOfRange cfg tl = true ↔ tl.toNat < 8 ∨ cfg.frameMax < tl.toNat := by
  simp [lengthOutOfRange]

/-! ### The positions -/

/-- Settles O21: the verdict is progress, by `verdict_first` or `verdict_incomplete`. -/
theorem pushByteInProgress : Obligations.PushByteInProgress := by
  intro s b hf hroom hmax hpos
  have hlen : (s.held ++ [b]).length = s.rc.toNat + 1 := by simp
  have hv : verdict s.cfg (s.held ++ [b]) = .progress := by
    obtain h0 | h3 | ⟨h4, hne⟩ := hpos
    · exact verdict_first (by omega)
    · exact verdict_incomplete (by omega) (.inl (by omega))
    · refine verdict_incomplete (by omega) (.inr ?_)
      rw [State.getD_held_concat_of_lt (by omega), hlen]
      exact hne
  have hd : listDState .progress (s.append b).rc.toNat
      = if s.rc.toNat = 0 then .awaitingMagic else .accumulatingPayload := by
    rw [State.append_rc_toNat b (by omega)]
    by_cases h0 : s.rc.toNat = 0
    · simp [listDState, h0]
    · simp only [listDState, if_neg h0]
      rw [if_neg (by omega), if_neg (by omega)]
  refine ⟨_, exec_pushByte_eq hf hroom (by omega), ?_⟩
  rw [hv, Verdict.apply, hd]
  exact ⟨rfl, Memory.read_write_same _ _ _, fun a ha => Memory.read_write_other _ _ _ _ ha⟩

/-- Settles O22: the three outcomes of `verdict_second`. -/
theorem magicPairDecides : Obligations.MagicPairDecides := by
  intro s b hf hrc hmax x a bb good
  have hgood : magicOk s.cfg x b = true ↔ good := by
    cases hm : s.cfg.magicCheck <;> simp only [good, hm]
    · exact magicOk_any hm x b
    · exact magicOk_both hm x b
  have hv : verdict s.cfg (s.held ++ [b]) =
      if magicOk s.cfg x b = true then .progress else if s.cfg.resync = .slide ∧ b = a then .slide else .magicErr := by
    rw [verdict_second (by simp [hrc]), State.getD_held_concat_of_lt (by omega), State.getD_held_concat_last hrc.symm]
  refine ⟨_, exec_pushByte_eq hf (by omega) (by omega), fun h => ?_, fun h hs hb => ?_, fun h hs => ?_⟩
  · rw [hv, if_pos (hgood.mpr h), State.append_eq hrc]
    exact ⟨rfl, Memory.read_write_same _ _ _, fun i hi => Memory.read_write_other _ _ _ _ hi⟩
  · have hsecond : Memory.read (s.append b).rxBuf 1 = a := by
      rw [State.append_rxBuf, hrc, Memory.read_write_same, hb]
    rw [hv, if_neg (mt hgood.mp h), if_pos ⟨hs, hb⟩, Verdict.apply, State.keepSecond, hsecond]
    exact ⟨rfl, Memory.read_write_same _ _ _, fun i hi => Memory.read_write_other _ _ _ _ hi⟩
  · have hnot : ¬(s.cfg.resync = .slide ∧ b = a) := by
      rintro ⟨hslide, hb⟩
      simp [hslide, hb] at hs
    rw [hv, if_neg (mt hgood.mp h), if_neg hnot]
    exact ⟨rfl, fun _ => rfl⟩

/-- Settles O23: the two outcomes of `verdict_third`. -/
theorem lengthByteDecides : Obligations.LengthByteDecides := by
  intro s b hf hrc hmax bad
  have hv : verdict s.cfg (s.held ++ [b]) = if bad then .lengthErr else .progress := by
    rw [verdict_third (by simp [hrc]), State.getD_held_concat_last hrc.symm]
    simp only [lengthOutOfRange_iff, bad]
  refine ⟨_, exec_pushByte_eq hf (by omega) (by omega), fun h => ?_, fun h => ?_⟩
  · rw [hv, if_pos h]
    exact ⟨rfl, fun _ => rfl⟩
  · rw [hv, if_neg h, State.append_eq hrc]
    exact ⟨rfl, Memory.read_write_same _ _ _, fun i hi => Memory.read_write_other _ _ _ _ hi⟩

/-- Settles O24: the three outcomes of `verdict_complete`. -/
theorem completionValidatesFrame : Obligations.CompletionValidatesFrame := by
  intro s b hf hroom hmax hrc htl f p badLength
  have hlen : f.length = s.rc.toNat + 1 := by simp [f]
  have htl' : f.length = (f.getD 2 0).toNat := by
    rw [State.getD_held_concat_of_lt (by omega), hlen, htl]
  have hv := verdict_complete (cfg := s.cfg) (by omega) htl'
  refine ⟨_, exec_pushByte_eq hf hroom (by omega), fun h => ?_, fun h hc => ?_, fun h hc => ?_⟩
  · rw [hv, if_pos h]
    exact ⟨rfl, fun _ => rfl⟩
  · rw [hv, if_neg h, if_pos hc]
    exact ⟨rfl, fun _ => rfl⟩
  · have hpkt : framePacket (s.append b).rxBuf (s.append b).rc.toNat = p := by
      have h8 : ¬ f.length < 8 := fun hshort => h (.inl hshort)
      rw [State.framePacket_eq_listPacket (by rw [State.append_rc_toNat b (by omega)]; omega),
        State.held_append b (by omega)]
      rfl
    rw [hv, if_neg h, if_neg (not_not_intro hc), Verdict.apply, State.accept, hpkt]
    exact ⟨rfl, Memory.read_write_same _ _ _, fun i hi => Memory.read_write_other _ _ _ _ hi⟩

end Sys2Proof.Machine
end

section
/-!
PROOFS. Strings of bytes pushed into the decoder (spec 41_decoder.md section 7): runs of the list decoder, and what they say of
PUSH_BYTE; then whole frames (R166, R170).
-/

namespace Sys2Proof.Machine

/-! ### Runs of the list decoder -/

/-- The decoder `s` has no fault and holds the bytes `h`. -/
structure Holds (cfg : Config) (h : Bytes) (s : State) : Prop where
  cfg_eq : s.cfg = cfg
  fault : s.fault = .noFault
  held : s.held = h

/-- From the held bytes `h` the list decoder takes a byte string in, within the buffer, and ends with other bytes held; every
event and packet it outputs on the way satisfies `E`. -/
inductive Run (cfg : Config) (E : RxEvent → Option Packet → Prop) (h : Bytes) : Bytes → Bytes → Prop
  | nil : Run cfg E h [] h
  | snoc {bs h' : Bytes} {b : Byte} {v : Verdict} (run : Run cfg E h bs h') (room : h'.length < cfg.frameMax)
      (hv : verdict cfg (h' ++ [b]) = v) (out : E v.event (v.packet (h' ++ [b]))) :
      Run cfg E h (bs ++ [b]) (v.kept (h' ++ [b]))

/-- The byte continues the frame attempt (R152, R154, R157, R158). -/
def InProgress (e : RxEvent) (q : Option Packet) : Prop := e = .progress ∧ q = none

/-- No packet is output. -/
def Silent (_e : RxEvent) (q : Option Packet) : Prop := q = none

section
variable {cfg : Config} {E : RxEvent → Option Packet → Prop} {h h' bs : Bytes} {s : State}

theorem Run.trans {cs h'' : Bytes} (hr : Run cfg E h bs h') (hr' : Run cfg E h' cs h'') :
    Run cfg E h (bs ++ cs) h'' := by
  induction hr' with
  | nil => simpa using hr
  | snoc _ room hv out ih =>
    rw [← List.append_assoc]
    exact ih.snoc room hv out

theorem Run.mono {E' : RxEvent → Option Packet → Prop} (hr : Run cfg E h bs h') (hE : ∀ e q, E e q → E' e q) :
    Run cfg E' h bs h' := by
  induction hr with
  | nil => exact .nil
  | snoc _ room hv out ih => exact ih.snoc room hv (hE _ _ out)

/-- A run passes through every initial part of its bytes. -/
theorem Run.take (hr : Run cfg E h bs h') (k : Nat) : ∃ h₁, Run cfg E h (bs.take k) h₁ := by
  induction hr with
  | nil => exact ⟨h, by simpa using Run.nil⟩
  | @snoc bs h' b v run room hv out ih =>
    by_cases hk : k ≤ bs.length
    · rw [List.take_append_of_le_length hk]
      exact ih
    · rw [List.take_of_length_le (by simp; omega)]
      exact ⟨_, run.snoc room hv out⟩

/-! ### Runs and PUSH_BYTE -/

theorem Holds.push (hs : Holds cfg h s) (hmax : cfg.frameMax ≤ 255) (hroom : h.length < cfg.frameMax) (b : Byte) :
    ∃ t, exec (.pushByte b) s = .next t ∧ Pushed s (listPush cfg h b) t ∧ Holds cfg (listPush cfg h b).1 t := by
  obtain ⟨rfl, hf, rfl⟩ := hs
  obtain ⟨t, e, ht⟩ := exec_pushByte_pushed b hf (by simpa using hroom) hmax
  exact ⟨t, e, ht, by rw [ht.frame], by rw [ht.frame]; exact hf, ht.held⟩

theorem runInstrs_append {is js : List Instr} {t : State} (e : runInstrs is s = .next t) :
    runInstrs (is ++ js) s = runInstrs js t := by
  induction is generalizing s with
  | nil =>
    cases e
    rfl
  | cons i is ih =>
    simp only [List.cons_append, runInstrs] at e ⊢
    cases hi : exec i s with
    | next u =>
      simp only [hi] at e
      exact ih e
    | fault r => simp [hi] at e
    | refused r => simp [hi] at e

theorem pushBytes_concat {t u : State} {b : Byte} (e : pushBytes bs s = .next t) (hb : exec (.pushByte b) t = .next u) :
    pushBytes (bs ++ [b]) s = .next u := by
  rw [pushBytes, List.map_append, runInstrs_append e]
  simp [runInstrs, hb]

/-- PUSH_BYTE follows a run: it goes on, holds what the run holds, and its last outputs are among those of the run. -/
theorem Run.pushBytes (hr : Run cfg E h bs h') (hmax : cfg.frameMax ≤ 255) (hs : Holds cfg h s) :
    ∃ u, pushBytes bs s = .next u ∧ Holds cfg h' u
      ∧ (bs ≠ [] → ∃ e q, E e q ∧ u.out = { status := .ok, val := .push q e, asks := [] }) := by
  induction hr with
  | nil => exact ⟨s, rfl, hs, fun hne => absurd rfl hne⟩
  | snoc _ room hv out ih =>
    subst hv
    obtain ⟨t, e, ht, -⟩ := ih
    obtain ⟨u, hpush, hu, hholds⟩ := ht.push hmax room _
    rw [listPush_eq] at hu hholds
    exact ⟨u, pushBytes_concat e hpush, hholds, fun _ => ⟨_, _, out, hu.out⟩⟩

/-- The byte after a run. -/
theorem Run.push_last (hr : Run cfg E h bs h') (hmax : cfg.frameMax ≤ 255) (hs : Holds cfg h s)
    (hroom : h'.length < cfg.frameMax) {b : Byte} {v : Verdict} (hv : verdict cfg (h' ++ [b]) = v) :
    ∃ t u, Machine.pushBytes (bs ++ [b]) s = .next u
      ∧ Pushed t (v.kept (h' ++ [b]), v.event, v.packet (h' ++ [b])) u ∧ Holds cfg (v.kept (h' ++ [b])) u := by
  obtain ⟨t, e, ht, -⟩ := hr.pushBytes hmax hs
  obtain ⟨u, hpush, hu, hholds⟩ := ht.push hmax hroom b
  rw [listPush_eq, hv] at hu hholds
  exact ⟨t, u, pushBytes_concat e hpush, hu, hholds⟩

theorem take_succ_ne_nil {w : Bytes} {k : Nat} (hk : k < w.length) : w.take (k + 1) ≠ [] :=
  List.ne_nil_of_length_pos (by simp; omega)

/-- The outputs at every byte of a run. -/
theorem Run.out_take (hr : Run cfg E h bs h') (hmax : cfg.frameMax ≤ 255) (hs : Holds cfg h s) {k : Nat}
    (hk : k < bs.length) :
    ∃ u e q, E e q ∧ Machine.pushBytes (bs.take (k + 1)) s = .next u
      ∧ u.out = { status := .ok, val := .push q e, asks := [] } := by
  obtain ⟨h₁, hr₁⟩ := hr.take (k + 1)
  obtain ⟨u, e, -, hout⟩ := hr₁.pushBytes hmax hs
  obtain ⟨ev, q, hE, ho⟩ := hout (take_succ_ne_nil hk)
  exact ⟨u, ev, q, hE, e, ho⟩

end

/-! ### A frame attempt -/

section
variable {cfg : Config} {w : Bytes} {j k n : Nat} {s : State}

theorem getD_take_of_lt {i : Nat} (h : i < k) : (w.take k).getD i 0 = w.getD i 0 := by
  simp [List.getD_eq_getElem?_getD, List.getElem?_take_of_lt h]

theorem take_concat_getD (h : k < w.length) : w.take k ++ [w.getD k 0] = w.take (k + 1) := by
  rw [List.getD_eq_getElem _ _ h, List.take_append_getElem h]

/-- The byte at `k` continues the attempt `w`: a passing magic pair, an accepted total_length, a frame not yet complete. -/
theorem verdict_take_progress (hk : k < w.length) (hmagic : k = 1 → magicOk cfg (w.getD 0 0) (w.getD 1 0) = true)
    (hlength : k = 2 → ¬(cfg.earlyLengthCheck = true ∧ lengthOutOfRange cfg (w.getD 2 0) = true))
    (hincomplete : 4 ≤ k → k + 1 ≠ (w.getD 2 0).toNat) : verdict cfg (w.take (k + 1)) = .progress := by
  have hlen : (w.take (k + 1)).length = k + 1 := by simp; omega
  by_cases h0 : k = 0
  · exact verdict_first (by omega)
  by_cases h1 : k = 1
  · rw [verdict_second (by omega), getD_take_of_lt (by omega), getD_take_of_lt (by omega), if_pos (hmagic h1)]
  by_cases h2 : k = 2
  · rw [verdict_third (by omega), getD_take_of_lt (by omega), if_neg (hlength h2)]
  refine verdict_incomplete (by omega) ?_
  rw [getD_take_of_lt (by omega), hlen]
  by_cases h3 : k = 3
  · exact .inl (by omega)
  · exact .inr (hincomplete (by omega))

/-- An attempt in progress from its `j`-th to its `n`-th byte is held whole. -/
theorem run_of_progress (hj : j ≤ n) (hn : n ≤ w.length) (hroom : n ≤ cfg.frameMax)
    (hprog : ∀ k, j ≤ k → k < n → verdict cfg (w.take (k + 1)) = .progress) :
    Run cfg InProgress (w.take j) ((w.take n).drop j) (w.take n) := by
  induction n, hj using Nat.le_induction with
  | base => simpa using Run.nil
  | succ n hjn ih =>
    have hrun := ih (by omega) (by omega) fun k hjk hkn => hprog k hjk (by omega)
    have hnext := take_concat_getD (w := w) (k := n) (by omega)
    have hv : verdict cfg (w.take n ++ [w.getD n 0]) = .progress := hnext ▸ hprog n hjn (by omega)
    have hsnoc := hrun.snoc (by simp; omega) hv ⟨rfl, rfl⟩
    simp only [Verdict.kept] at hsnoc
    rwa [← hnext, List.drop_append_of_le_length (by simp; omega)]

end

/-! ### Whole frames -/

/-- The frame of `p` with the bytes `x` and `y` in the place of the magic pair. -/
def frameWith (cfg : Config) (x y : Byte) (p : Packet) : Bytes := x :: y :: (frameBytes cfg p).drop 2

theorem frameBytes_eq_frameWith (cfg : Config) (p : Packet) :
    frameBytes cfg p = frameWith cfg cfg.magicA cfg.magicB p := rfl

theorem execTxFrame_ok {s : State} (hf : s.fault = .noFault) (hlen : s.txLen.toNat ≤ s.cfg.frameMax) :
    execTxFrame s = .next (s.takeFrame.drive (.frame (Memory.readBytes s.txBuf 0 s.txLen.toNat)) []) := by
  rw [execTxFrame, unlessFaulted_ok s _ hf]
  exact if_neg (Nat.not_lt_of_le hlen)

/-- ENCODE and TX_FRAME give the frame of R80, for a packet that fits (R131, R132, R241). -/
theorem FrameOf.eq_frameBytes {cfg : Config} {p : Packet} {f : Bytes} (h : FrameOf cfg p f) (hmax : cfg.frameMax ≤ 255) :
    f = frameBytes cfg p ∧ 8 + p.payload.length ≤ cfg.frameMax := by
  obtain ⟨e, e1, e2, rfl, henc, hok, htx, hout⟩ := h
  by_cases hf : e.fault = .noFault
  · by_cases hfit : 8 + p.payload.length ≤ e.cfg.frameMax
    · have hlen : (BitVec.ofNat 8 (8 + p.payload.length)).toNat = 8 + p.payload.length :=
        Nat.mod_eq_of_lt (by omega)
      cases (execEncode_fits (s := e.offer p) hf hfit).symm.trans henc
      have htaken := execTxFrame_ok (s := ((e.offer p).loadFrame p).drive (.txLen (.ofNat 8 (8 + p.payload.length))) [])
        hf (hlen.trans_le hfit)
      cases htaken.symm.trans htx
      obtain ⟨-, hframe, -⟩ := PortOut.mk.inj hout
      have hbytes := readBytes_loadFrame (e.offer p) p
      rw [← hlen] at hbytes
      exact ⟨(OutVal.frame.inj hframe).symm.trans hbytes, hfit⟩
    · cases (execEncode_overflow (s := e.offer p) hf (Nat.lt_of_not_le hfit)).symm.trans henc
      cases hok
  · cases (execEncode_faulted (s := e.offer p) hf).symm.trans henc
    cases hok

section
variable {cfg : Config} {x y : Byte} {p : Packet}

theorem frameWith_ne_nil : frameWith cfg x y p ≠ [] := List.cons_ne_nil _ _

theorem frameWith_length : (frameWith cfg x y p).length = 8 + p.payload.length := by
  simp [frameWith, frameBytes_length]
  omega

theorem frameWith_getD_two (hp : p.payload.length ≤ 247) :
    ((frameWith cfg x y p).getD 2 0).toNat = 8 + p.payload.length :=
  Nat.mod_eq_of_lt (by omega)

theorem frameWith_getD_five (hp : p.payload.length ≤ 247) :
    ((frameWith cfg x y p).getD 5 0).toNat = p.payload.length :=
  Nat.mod_eq_of_lt (by omega)

theorem frameWith_progress (hm : magicOk cfg x y = true) (hfit : 8 + p.payload.length ≤ cfg.frameMax)
    (hmax : cfg.frameMax ≤ 255) {k : Nat} (hk : k + 1 < (frameWith cfg x y p).length) :
    verdict cfg ((frameWith cfg x y p).take (k + 1)) = .progress := by
  have htl := frameWith_getD_two (cfg := cfg) (x := x) (y := y) (p := p) (by omega)
  rw [frameWith_length] at hk
  refine verdict_take_progress (by rw [frameWith_length]; omega) (fun _ => hm) (fun _ => ?_) fun _ => by omega
  rw [lengthOutOfRange_iff, htl]
  omega

theorem frameWith_accept (hp : p.payload.length ≤ 247) : verdict cfg (frameWith cfg x y p) = .accept := by
  have htl := frameWith_getD_two (cfg := cfg) (x := x) (y := y) hp
  have hpl := frameWith_getD_five (cfg := cfg) (x := x) (y := y) hp
  rw [verdict_complete (by rw [frameWith_length]; omega) (by rw [frameWith_length, htl]), frameWith_length, hpl,
    if_neg (by omega)]
  exact if_neg (not_not_intro rfl)

theorem magicOk_magic (cfg : Config) : magicOk cfg cfg.magicA cfg.magicB = true := by
  cases hm : cfg.magicCheck <;> simp [magicOk, hm]

/-- A run up to the last byte of a frame. -/
theorem run_frameWith (hm : magicOk cfg x y = true) (hfit : 8 + p.payload.length ≤ cfg.frameMax)
    (hmax : cfg.frameMax ≤ 255) {j : Nat} (hj : j ≤ 1) :
    Run cfg InProgress ((frameWith cfg x y p).take j) ((frameWith cfg x y p).dropLast.drop j)
      (frameWith cfg x y p).dropLast := by
  rw [List.dropLast_eq_take]
  have hlen := frameWith_length (cfg := cfg) (x := x) (y := y) (p := p)
  exact run_of_progress (by omega) (by omega) (by omega) fun k _ hk => frameWith_progress hm hfit hmax (by omega)

end

/-! ### Frames into the decoder -/

theorem holds_of_ready {s : State} (hf : s.fault = .noFault) (hrc : s.rc = 0) : Holds s.cfg [] s :=
  ⟨rfl, hf, State.held_eq_nil hrc⟩

section
variable {cfg : Config} {E : RxEvent → Option Packet → Prop} {h bs f : Bytes} {x y : Byte} {p : Packet} {s : State}

/-- A run up to the last byte of a frame, and then that byte: the outputs of the run, and then the packet. -/
theorem Run.push_frame (hr : Run cfg E h bs (frameWith cfg x y p).dropLast)
    (hfit : 8 + p.payload.length ≤ cfg.frameMax) (hmax : cfg.frameMax ≤ 255) (hs : Holds cfg h s)
    (hf : f = bs ++ [(frameWith cfg x y p).getLast frameWith_ne_nil]) :
    (∀ k, k + 1 < f.length → ∃ u e q, E e q ∧ Machine.pushBytes (f.take (k + 1)) s = .next u
        ∧ u.out = { status := .ok, val := .push q e, asks := [] })
      ∧ ∃ t u, Machine.pushBytes f s = .next u ∧ Pushed t ([], .frameOk, some p) u ∧ Holds cfg [] u := by
  subst hf
  constructor
  · intro k hk
    have hk' : k < bs.length := by simpa using hk
    rw [List.take_append_of_le_length hk']
    exact hr.out_take hmax hs hk'
  · have hw := List.dropLast_append_getLast (frameWith_ne_nil (cfg := cfg) (x := x) (y := y) (p := p))
    have hlast := hr.push_last hmax hs (by rw [List.length_dropLast, frameWith_length]; omega)
      (hw ▸ frameWith_accept (by omega))
    rwa [hw] at hlast

/-- A frame whose magic pair passes decodes to its packet (R166, R170). -/
theorem decodesTo_frameWith (hm : magicOk cfg x y = true) (hfit : 8 + p.payload.length ≤ cfg.frameMax)
    (hmax : cfg.frameMax ≤ 255) (hs : Holds cfg [] s) : DecodesTo (frameWith cfg x y p) p s := by
  have hrun : Run cfg InProgress [] (frameWith cfg x y p).dropLast (frameWith cfg x y p).dropLast :=
    run_frameWith hm hfit hmax (Nat.zero_le 1)
  obtain ⟨houts, t, u, e, hu, hholds⟩ := hrun.push_frame hfit hmax hs (List.dropLast_append_getLast _).symm
  refine ⟨fun k hk => ?_, u, e, hu.out, hu.valid, hu.pkt, BitVec.eq_of_toNat_eq hu.rc, hu.dstate, hholds.fault⟩
  obtain ⟨v, _, _, ⟨rfl, rfl⟩, hv, hout⟩ := houts k hk
  exact ⟨v, hv, hout⟩

/-- After a silent run that leaves the decoder with nothing but the frame's own first bytes, the frame's packet is the only
one (R168). -/
theorem yieldsExactly_of_run {g : Bytes} {j : Nat} (hj : j ≤ 1)
    (hr : Run cfg Silent h (g ++ (frameBytes cfg p).take j) ((frameBytes cfg p).take j))
    (hfit : 8 + p.payload.length ≤ cfg.frameMax) (hmax : cfg.frameMax ≤ 255) (hs : Holds cfg h s) :
    YieldsExactly g (frameBytes cfg p) p s := by
  rw [frameBytes_eq_frameWith] at hr ⊢
  have hframe : Run cfg Silent _ _ _ := (run_frameWith (magicOk_magic cfg) hfit hmax hj).mono fun _ _ hE => hE.2
  have hsplit : g ++ frameWith cfg cfg.magicA cfg.magicB p
      = g ++ (frameWith cfg cfg.magicA cfg.magicB p).take j ++ (frameWith cfg cfg.magicA cfg.magicB p).dropLast.drop j
        ++ [(frameWith cfg cfg.magicA cfg.magicB p).getLast frameWith_ne_nil] := by
    have htake : (frameWith cfg cfg.magicA cfg.magicB p).take j
        = (frameWith cfg cfg.magicA cfg.magicB p).dropLast.take j := by
      rw [List.dropLast_eq_take, List.take_take, min_eq_left (by rw [frameWith_length]; omega)]
    rw [htake, List.append_assoc g, List.take_append_drop, List.append_assoc, List.dropLast_append_getLast]
  obtain ⟨houts, t, u, e, hu, -⟩ := (hr.trans hframe).push_frame hfit hmax hs hsplit
  refine ⟨fun k hk => ?_, u, e, hu.out⟩
  obtain ⟨v, ev, _, rfl, hv, hout⟩ := houts k hk
  exact ⟨v, ev, hv, hout⟩

end

/-- Settles O27: the frame's own magic pair passes under both settings of MAGIC_CHECK. -/
theorem decodeOfEncodedFrame : Obligations.DecodeOfEncodedFrame := by
  intro s p f hwf hframe hf hrc
  have hmax := (Config.frameMax_bounds hwf).2
  obtain ⟨rfl, hfit⟩ := hframe.eq_frameBytes hmax
  exact decodesTo_frameWith (magicOk_magic _) hfit hmax (holds_of_ready hf hrc)

/-- Settles O29: with either byte replaced, the other magic byte still makes the pair pass. -/
theorem bothAcceptsOneBadMagicByte : Obligations.BothAcceptsOneBadMagicByte := by
  intro s p f i x hwf hboth hframe hf hrc hi
  have hmax := (Config.frameMax_bounds hwf).2
  obtain ⟨rfl, hfit⟩ := hframe.eq_frameBytes hmax
  have hs := holds_of_ready hf hrc
  obtain rfl | rfl : i = 0 ∨ i = 1 := by omega
  · exact decodesTo_frameWith ((magicOk_both hboth _ _).mpr fun h => h.2 rfl) hfit hmax hs
  · exact decodesTo_frameWith ((magicOk_both hboth _ _).mpr fun h => h.1 rfl) hfit hmax hs

end Sys2Proof.Machine
end

section
/-!
PROOFS. Resynchronisation and forgetting (spec 41_decoder.md R168, R169): garbage before a frame under PAIR and SLIDE, and a
decoder at `rc = 0` beside one after RESET.
-/

namespace Sys2Proof.Machine

/-! ### Garbage before a frame -/

section
variable {cfg : Config} {x y : Byte}

/-- The first byte of an attempt (R152). -/
theorem run_first_byte (hmax : 8 ≤ cfg.frameMax) (x : Byte) : Run cfg Silent [] [x] [x] :=
  Run.snoc (h' := []) (v := .progress) .nil (Nat.lt_of_lt_of_le (Nat.zero_lt_succ 7) hmax) rfl rfl

/-- A pair that does not pass leaves nothing, but for a MAGIC_A that SLIDE keeps (R155, R156). -/
theorem run_failing_pair (hmax : 8 ≤ cfg.frameMax) (hm : magicOk cfg x y = false) :
    Run cfg Silent [x] [y] (if cfg.resync = .slide ∧ y = cfg.magicA then [y] else []) := by
  have hv : verdict cfg [x, y] = if cfg.resync = .slide ∧ y = cfg.magicA then .slide else .magicErr := by
    rw [verdict_second rfl]
    simp [hm]
  have hroom : [x].length < cfg.frameMax := Nat.lt_of_lt_of_le (by simp) hmax
  split_ifs at hv ⊢ with hs
  · exact Run.nil.snoc hroom hv rfl
  · exact Run.nil.snoc hroom hv rfl

/-- Under PAIR a failing pair leaves nothing (R155). -/
theorem run_discarded_pair (hmax : 8 ≤ cfg.frameMax) (hpair : cfg.resync = .pair) (hm : magicOk cfg x y = false) :
    Run cfg Silent [x] [y] [] := by
  have hrun := run_failing_pair hmax hm
  rwa [if_neg (by simp [hpair])] at hrun

/-- No pair of `w` that PAIR compares passes. -/
def PairsFail (cfg : Config) (w : Bytes) : Prop :=
  ∀ i, 2 * i + 1 < w.length → magicOk cfg (w.getD (2 * i) 0) (w.getD (2 * i + 1) 0) = false

theorem pairsFail_cons_cons {g : Bytes} (h : PairsFail cfg (x :: y :: g)) :
    magicOk cfg x y = false ∧ PairsFail cfg g :=
  ⟨h 0 (by simp), fun i hi => h (i + 1) (by simp only [List.length_cons]; omega)⟩

/-- Under PAIR, pairs that all fail leave the decoder empty. -/
theorem run_pairs (hmax : 8 ≤ cfg.frameMax) (hpair : cfg.resync = .pair) :
    (g : Bytes) → g.length % 2 = 0 → PairsFail cfg g → Run cfg Silent [] g []
  | [], _, _ => .nil
  | [_], heven, _ => by simp at heven
  | x :: y :: g, heven, hfail => by
    obtain ⟨hxy, hrest⟩ := pairsFail_cons_cons hfail
    have hrun := run_pairs hmax hpair g (by simp only [List.length_cons] at heven; omega) hrest
    exact ((run_first_byte hmax x).trans (run_discarded_pair hmax hpair hxy)).trans hrun

/-- The same with a byte of the first pair already held. -/
theorem run_pairs_of_held (hmax : 8 ≤ cfg.frameMax) (hpair : cfg.resync = .pair) {h g : Bytes} (hlen : h.length ≤ 1)
    (heven : (h ++ g).length % 2 = 0) (hfail : PairsFail cfg (h ++ g)) : Run cfg Silent h g [] := by
  match h, g with
  | [], g => exact run_pairs hmax hpair g heven hfail
  | [_], [] => simp at heven
  | [_], _ :: g =>
    obtain ⟨hxy, hrest⟩ := pairsFail_cons_cons hfail
    have hrun := run_pairs hmax hpair g (by simp at heven; omega) hrest
    exact (run_discarded_pair hmax hpair hxy).trans hrun
  | _ :: _ :: _, _ => simp at hlen

/-- Under SLIDE, garbage without an adjacent magic pair leaves at most its last byte, and that one if it is MAGIC_A. -/
theorem run_slide (hmax : 8 ≤ cfg.frameMax) (hslide : cfg.resync = .slide) (hany : cfg.magicCheck = .any) (g : Bytes)
    (hg : g.IsChain fun x y => ¬(x = cfg.magicA ∧ y = cfg.magicB)) :
    ∃ h, Run cfg Silent [] g h ∧ ((h = [] ∧ g.getLast? ≠ some cfg.magicA) ∨ ∃ x, h = [x] ∧ g.getLast? = some x) := by
  induction g using List.reverseRecOn with
  | nil => exact ⟨[], .nil, .inl ⟨rfl, by simp⟩⟩
  | append_singleton g y ih =>
    obtain ⟨hchain, -, hadj⟩ := List.isChain_append.mp hg
    obtain ⟨h, hrun, ⟨rfl, -⟩ | ⟨x, rfl, hlast⟩⟩ := ih hchain
    · exact ⟨[y], hrun.trans (run_first_byte hmax y), .inr ⟨y, rfl, by simp⟩⟩
    · have hm : magicOk cfg x y = false := by
        rw [← Bool.not_eq_true, magicOk_any hany]
        exact hadj x hlast y rfl
      refine ⟨_, hrun.trans (run_failing_pair hmax hm), ?_⟩
      by_cases hy : y = cfg.magicA
      · exact .inr ⟨y, by simp [hslide, hy], by simp⟩
      · exact .inl ⟨by simp [hy], by simpa using hy⟩

end

/-- Settles O30: by `run_pairs_of_held` the garbage, with the byte held before it, leaves the decoder empty. -/
theorem pairResynchronises : Obligations.PairResynchronises := by
  intro s g p f hwf hpair hframe hf hrc heven hfail
  obtain ⟨hlow, hhigh⟩ := Config.frameMax_bounds hwf
  obtain ⟨rfl, hfit⟩ := hframe.eq_frameBytes hhigh
  have hrun : Run s.cfg Silent s.held g [] :=
    run_pairs_of_held hlow hpair (by rwa [s.held_length]) heven hfail
  exact yieldsExactly_of_run (j := 0) (Nat.zero_le 1) (by simpa using hrun) hfit hhigh ⟨rfl, hf, rfl⟩

/-- Settles O31: by `run_slide` the garbage and the frame's first byte, MAGIC_A, leave that byte. -/
theorem slideResynchronises : Obligations.SlideResynchronises := by
  intro s g p f hwf hslide hany hne hframe hf hrc hg
  obtain ⟨hlow, hhigh⟩ := Config.frameMax_bounds hwf
  obtain ⟨rfl, hfit⟩ := hframe.eq_frameBytes hhigh
  have hchain : (g ++ [s.cfg.magicA]).IsChain fun x y => ¬(x = s.cfg.magicA ∧ y = s.cfg.magicB) := by
    refine List.isChain_append.mpr ⟨List.isChain_iff_getElem.mpr fun i hi => ?_, List.isChain_singleton _, ?_⟩
    · have := hg i hi
      rwa [List.getD_eq_getElem _ _ hi, List.getD_eq_getElem _ _ (by omega)] at this
    · rintro x - y hy ⟨-, rfl⟩
      simp at hy
      exact hne hy
  obtain ⟨h, hrun, ⟨-, hlast⟩ | ⟨x, rfl, hlast⟩⟩ := run_slide hlow hslide hany _ hchain
  · simp at hlast
  · obtain rfl : s.cfg.magicA = x := by simpa using hlast
    exact yieldsExactly_of_run (j := 1) le_rfl hrun hfit hhigh (holds_of_ready hf hrc)

/-! ### Two decoders that behave alike -/

/-- The same parameters, and the same behaviour from now on. -/
structure Alike (cfg : Config) (s t : State) : Prop where
  same : SameDecoder s t
  left : s.cfg = cfg
  right : t.cfg = cfg

theorem SameOutcome.mono {rel rel' : State → State → Prop} {a b : Result} (h : SameOutcome rel a b)
    (hrel : ∀ s t, rel s t → rel' s t) : SameOutcome rel' a b := by
  cases a with
  | next s =>
    cases b with
    | next t => exact hrel s t h
    | fault r => exact h
    | refused r => exact h
  | fault r => cases b <;> exact h
  | refused r => cases b <;> exact h

section
variable {cfg : Config} {s t u v : State}

/-- Two decoders that the list decoder answers alike. -/
theorem alike_of_pushed {r : Bytes × RxEvent × Option Packet} (hs : s.cfg = cfg ∧ s.fault = .noFault)
    (ht : t.cfg = cfg ∧ t.fault = .noFault) (hu : Pushed s r u) (hv : Pushed t r v) : Alike cfg u v where
  left := by rw [hu.frame]; exact hs.1
  right := by rw [hv.frame]; exact ht.1
  same := {
    out := hv.out.trans hu.out.symm
    fault := by rw [hu.frame, hv.frame]; exact ht.2.trans hs.2.symm
    rc := BitVec.eq_of_toNat_eq (hv.rc.trans hu.rc.symm)
    dstate := hv.dstate.trans hu.dstate.symm
    event := hv.event.trans hu.event.symm
    valid := hv.valid.trans hu.valid.symm
    pkt := fun hvalid => by
      obtain ⟨q, hq⟩ := Option.isSome_iff_exists.mp (hu.valid.symm.trans hvalid)
      rw [hv.pkt, hu.pkt, hq]
      rfl
    held := hv.held.trans hu.held.symm }

/-- A byte keeps two decoders alike. -/
theorem Alike.pushByte (h : Alike cfg s t) (hmax : cfg.frameMax ≤ 255) (b : Byte) :
    SameOutcome (Alike cfg) (exec (.pushByte b) s) (exec (.pushByte b) t) := by
  obtain ⟨hsame, hs, ht⟩ := h
  have hrc : t.rc.toNat = s.rc.toNat := by rw [hsame.rc]
  obtain ⟨hf, e⟩ | ⟨hf, hfull, e⟩ | ⟨hf, hbad, e⟩ | ⟨hf, hroom, -⟩ := execPushByte_cases b s
  · have e' : execPushByte b t = .next t.reportFault := unlessFaulted_faulted t _ (hsame.fault ▸ hf)
    rw [exec, exec, e, e']
    exact ⟨{ hsame with out := by simp [hsame.fault] }, hs, ht⟩
  · rw [exec_pushByte_of_full b hf hfull, exec_pushByte_of_full b (hsame.fault.trans hf) (by rw [hrc, hfull, hs, ht])]
    exact ⟨{ hsame with out := rfl, fault := rfl }, hs, ht⟩
  · have e' : execPushByte b t = .fault (.badAddress .rx s.rc.toNat) := by
      rw [execPushByte, unlessFaulted_ok t _ (hsame.fault.trans hf), hrc, ht, ← hs, if_neg (by omega), if_pos hbad]
    rw [exec, exec, e, e']
    rfl
  · obtain ⟨u, eu, hu⟩ := exec_pushByte_pushed b hf hroom (hs ▸ hmax)
    obtain ⟨v, ev, hv⟩ := exec_pushByte_pushed b (hsame.fault.trans hf) (by rw [hrc, ht, ← hs]; exact hroom) (ht ▸ hmax)
    rw [eu, ev]
    rw [hsame.held, ht, ← hs] at hv
    exact alike_of_pushed ⟨hs, hf⟩ ⟨ht, hsame.fault.trans hf⟩ hu hv

theorem sameOutcome_runInstrs_cons {rel rel' : State → State → Prop} {i : Instr} {is : List Instr}
    (h : SameOutcome rel (exec i s) (exec i t))
    (hrest : ∀ u v, rel u v → SameOutcome rel' (runInstrs is u) (runInstrs is v)) :
    SameOutcome rel' (runInstrs (i :: is) s) (runInstrs (i :: is) t) := by
  simp only [runInstrs]
  generalize exec i s = a at h
  generalize exec i t = b at h
  cases a with
  | next u =>
    cases b with
    | next v => exact hrest u v h
    | fault r => exact h.elim
    | refused r => exact h.elim
  | fault r =>
    cases b with
    | next v => exact h.elim
    | fault r' => exact h
    | refused r' => exact h.elim
  | refused r =>
    cases b with
    | next v => exact h.elim
    | fault r' => exact h.elim
    | refused r' => exact h

/-- A byte string, likewise. -/
theorem Alike.pushBytes (h : Alike cfg s t) (hmax : cfg.frameMax ≤ 255) (bs : Bytes) :
    SameOutcome (Alike cfg) (pushBytes bs s) (pushBytes bs t) := by
  induction bs generalizing s t with
  | nil => exact h
  | cons b bs ih => exact sameOutcome_runInstrs_cons (h.pushByte hmax b) fun _ _ => ih

end

/-- Settles O32: the first byte makes the two decoders alike, and every further byte keeps them alike. -/
theorem decoderForgets : Obligations.DecoderForgets := by
  intro s bs hwf hf hrc hne r hreset
  obtain ⟨hlow, hhigh⟩ := Config.frameMax_bounds hwf
  have hs := holds_of_ready hf hrc
  have hr : Holds s.cfg [] r := by
    cases hreset
    exact ⟨rfl, rfl, rfl⟩
  obtain ⟨b, bs, rfl⟩ := List.exists_cons_of_ne_nil hne
  have hroom : ([] : Bytes).length < s.cfg.frameMax := Nat.lt_of_lt_of_le (Nat.zero_lt_succ 7) hlow
  obtain ⟨u, eu, hu, -⟩ := hr.push hhigh hroom b
  obtain ⟨v, ev, hv, -⟩ := hs.push hhigh hroom b
  have hfirst : SameOutcome (Alike s.cfg) (exec (.pushByte b) r) (exec (.pushByte b) s) := by
    rw [eu, ev]
    exact alike_of_pushed ⟨hr.cfg_eq, hr.fault⟩ ⟨rfl, hf⟩ hu hv
  exact sameOutcome_runInstrs_cons hfirst fun _ _ halike =>
    (halike.pushBytes hhigh bs).mono fun _ _ h => h.same

end Sys2Proof.Machine
end

section
/-!
PROOFS. Attempts that end without a packet (spec 41_decoder.md R161, R171): an attempt with a wrong length or checksum, the
invariant of an attempt under the early length check, and the overrun without the check.
-/

namespace Sys2Proof.Machine

/-! ### What a verdict says of the held bytes -/

section
variable {cfg : Config} {f : Bytes}

theorem magicOk_of_progress (h : verdict cfg f = .progress) (hlen : f.length = 2) :
    magicOk cfg (f.getD 0 0) (f.getD 1 0) = true := by
  rw [verdict_second hlen] at h
  split_ifs at h with hm
  exact hm

theorem length_of_progress (h : verdict cfg f = .progress) (hlen : f.length = 3) (hearly : cfg.earlyLengthCheck = true) :
    8 ≤ (f.getD 2 0).toNat ∧ (f.getD 2 0).toNat ≤ cfg.frameMax := by
  rw [verdict_third hlen] at h
  split_ifs at h with hout
  rw [lengthOutOfRange_iff] at hout
  by_contra hbad
  exact hout ⟨hearly, by omega⟩

theorem incomplete_of_progress (h : verdict cfg f = .progress) (hlen : 5 ≤ f.length) :
    f.length ≠ (f.getD 2 0).toNat := by
  intro heq
  rw [verdict_complete hlen heq] at h
  split_ifs at h

/-- What an accepted frame satisfies (R159, R161). -/
theorem valid_of_accept (h : verdict cfg f = .accept) :
    f.length = (f.getD 2 0).toNat ∧ f.length = 8 + (f.getD 5 0).toNat ∧ chk cfg (f.drop 4) = f.getD 3 0 := by
  have hlen := length_of_verdict_accept h
  have heq : f.length = (f.getD 2 0).toNat := by
    by_contra hne
    rw [verdict_incomplete (by omega) (.inr hne)] at h
    cases h
  rw [verdict_complete (by omega) heq] at h
  split_ifs at h with hbad hchk
  exact ⟨heq, by omega, not_not.mp hchk⟩

/-- Only an acceptance outputs a packet (R150). -/
theorem Verdict.packet_eq_some {v : Verdict} {p : Packet} : v.packet f = some p ↔ v = .accept ∧ listPacket f = p := by
  cases v <;> simp [Verdict.packet]

/-- The bytes kept are the last bytes pushed. -/
theorem kept_suffix (cfg : Config) (f : Bytes) : (verdict cfg f).kept f <:+ f := by
  generalize hv : verdict cfg f = v
  cases v with
  | progress => exact List.suffix_rfl
  | slide =>
    obtain ⟨x, y, rfl⟩ := List.length_eq_two.mp (length_of_verdict_slide hv)
    exact List.suffix_cons x [y]
  | magicErr => exact List.nil_suffix
  | lengthErr => exact List.nil_suffix
  | checksumErr => exact List.nil_suffix
  | accept => exact List.nil_suffix

end

/-! ### Rejected attempts -/

section
variable {cfg : Config} {w : Bytes} {j n : Nat} {v : Verdict} {s : State}

/-- An attempt `w`, in progress up to its last byte: what its last byte does. -/
theorem push_attempt (hs : Holds cfg (w.take j) s) (hmax : cfg.frameMax ≤ 255) (hj : j ≤ n) (hn : w.length = n + 1)
    (hroom : n < cfg.frameMax) (hprog : ∀ k, j ≤ k → k < n → verdict cfg (w.take (k + 1)) = .progress)
    (hv : verdict cfg w = v) :
    ∃ t u, pushBytes (w.drop j) s = .next u ∧ Pushed t (v.kept w, v.event, v.packet w) u ∧ Holds cfg (v.kept w) u := by
  have hw : w.take n ++ [w.getD n 0] = w := by rw [take_concat_getD (by omega), ← hn, List.take_length]
  have hdrop : (w.take n).drop j ++ [w.getD n 0] = w.drop j := by
    rw [← List.drop_append_of_le_length (by simp; omega), hw]
  have hlast := (run_of_progress hj (by omega) (by omega) hprog).push_last hmax hs (by simp; omega) (hw ▸ hv)
  rwa [hdrop, hw] at hlast

theorem rejectsWith_attempt (hs : Holds cfg [] s) (hmax : cfg.frameMax ≤ 255) (hn : w.length = n + 1)
    (hroom : n < cfg.frameMax) (hprog : ∀ k, k < n → verdict cfg (w.take (k + 1)) = .progress)
    (hv : verdict cfg w = v) (hp : v.packet w = none) : RejectsWith w v.event s := by
  obtain ⟨t, u, e, hu, -⟩ := push_attempt (j := 0) hs hmax (Nat.zero_le n) hn hroom (fun k _ => hprog k) hv
  exact ⟨u, e, hp ▸ hu.out⟩

/-- A second byte after which the magic pair does not pass is rejected (R155, R156). -/
theorem rejectsWith_magicErr (hs : Holds cfg [] s) (hlow : 8 ≤ cfg.frameMax) (hmax : cfg.frameMax ≤ 255)
    (hn : w.length = 2) (hm : ¬ magicOk cfg (w.getD 0 0) (w.getD 1 0) = true) : RejectsWith w .magicErr s := by
  have hprog : ∀ k, k < 1 → verdict cfg (w.take (k + 1)) = .progress :=
    fun k hk => verdict_take_progress (by omega) (by omega) (by omega) (by omega)
  have hv := verdict_second (cfg := cfg) hn
  rw [if_neg hm] at hv
  split_ifs at hv with hslide
  · exact rejectsWith_attempt hs hmax hn (by omega) hprog hv rfl
  · exact rejectsWith_attempt hs hmax hn (by omega) hprog hv rfl

/-- A third byte out of range is rejected under the early length check (R157). -/
theorem rejectsWith_early_lengthErr (hs : Holds cfg [] s) (hlow : 8 ≤ cfg.frameMax) (hmax : cfg.frameMax ≤ 255)
    (hn : w.length = 3) (hm : magicOk cfg (w.getD 0 0) (w.getD 1 0) = true) (hearly : cfg.earlyLengthCheck = true)
    (hout : lengthOutOfRange cfg (w.getD 2 0) = true) : RejectsWith w .lengthErr s := by
  have hprog : ∀ k, k < 2 → verdict cfg (w.take (k + 1)) = .progress :=
    fun k hk => verdict_take_progress (by omega) (fun _ => hm) (by omega) (by omega)
  have hv := verdict_third (cfg := cfg) hn
  rw [if_pos ⟨hearly, hout⟩] at hv
  exact rejectsWith_attempt hs hmax hn (by omega) hprog hv rfl

/-- The bytes `w` end where their total_length, which is in range, says, after a magic pair that passes (R159). -/
structure CompleteAttempt (cfg : Config) (w : Bytes) : Prop where
  magic : magicOk cfg (w.getD 0 0) (w.getD 1 0) = true
  low : 8 ≤ w.length
  high : w.length ≤ cfg.frameMax
  length : w.length = (w.getD 2 0).toNat

theorem CompleteAttempt.rejectsWith (hw : CompleteAttempt cfg w) (hs : Holds cfg [] s) (hmax : cfg.frameMax ≤ 255)
    (hv : verdict cfg w = v) (hp : v.packet w = none) : RejectsWith w v.event s := by
  obtain ⟨hm, hlow, hhigh, hlen⟩ := hw
  refine rejectsWith_attempt (n := w.length - 1) hs hmax (by omega) (by omega) (fun k hk => ?_) hv hp
  refine verdict_take_progress (by omega) (fun _ => hm) (fun _ => ?_) fun _ => by omega
  rw [lengthOutOfRange_iff]
  omega

/-- A payload_length that disagrees with total_length is rejected (R161). -/
theorem CompleteAttempt.rejectsWith_lengthErr (hw : CompleteAttempt cfg w) (hs : Holds cfg [] s)
    (hmax : cfg.frameMax ≤ 255) (hpl : w.length ≠ 8 + (w.getD 5 0).toNat) : RejectsWith w .lengthErr s := by
  have hv := verdict_complete (cfg := cfg) (by have := hw.low; omega) hw.length
  rw [if_pos (.inr hpl)] at hv
  exact hw.rejectsWith hs hmax hv rfl

/-- A checksum that is not that of the packet region is rejected (R161). -/
theorem CompleteAttempt.rejectsWith_checksumErr (hw : CompleteAttempt cfg w) (hs : Holds cfg [] s)
    (hmax : cfg.frameMax ≤ 255) (hpl : w.length = 8 + (w.getD 5 0).toNat)
    (hchk : chk cfg (w.drop 4) ≠ w.getD 3 0) : RejectsWith w .checksumErr s := by
  have hv := verdict_complete (cfg := cfg) (by have := hw.low; omega) hw.length
  rw [if_neg (by omega), if_pos hchk] at hv
  exact hw.rejectsWith hs hmax hv rfl

end

/-! ### The early length check -/

/-- What the held bytes satisfy under the early length check: a magic pair that passed, and a total_length in range that is
not reached yet (R171). -/
structure Attempt (cfg : Config) (h : Bytes) : Prop where
  magic : 2 ≤ h.length → magicOk cfg (h.getD 0 0) (h.getD 1 0) = true
  length : 3 ≤ h.length →
    8 ≤ (h.getD 2 0).toNat ∧ h.length < (h.getD 2 0).toNat ∧ (h.getD 2 0).toNat ≤ cfg.frameMax

section
variable {cfg : Config} {h : Bytes} {b : Byte}

theorem Attempt.room (ha : Attempt cfg h) (hlow : 8 ≤ cfg.frameMax) : h.length < cfg.frameMax := by
  by_cases h3 : 3 ≤ h.length
  · obtain ⟨-, hlt, hle⟩ := ha.length h3
    omega
  · omega

theorem attempt_of_short (hlen : h.length < 2) : Attempt cfg h :=
  ⟨fun h2 => by omega, fun h3 => by omega⟩

theorem getD_concat_of_lt {i : Nat} (hi : i < h.length) : (h ++ [b]).getD i 0 = h.getD i 0 :=
  List.getD_append _ _ _ _ hi

theorem Attempt.concat (ha : Attempt cfg h) (hearly : cfg.earlyLengthCheck = true)
    (hv : verdict cfg (h ++ [b]) = .progress) : Attempt cfg (h ++ [b]) := by
  have hlen : (h ++ [b]).length = h.length + 1 := by simp
  constructor
  · intro h2
    by_cases e2 : h.length = 1
    · exact magicOk_of_progress hv (by omega)
    · rw [getD_concat_of_lt (by omega), getD_concat_of_lt (by omega)]
      exact ha.magic (by omega)
  · intro h3
    by_cases e3 : h.length = 2
    · have hrange := length_of_progress hv (by omega) hearly
      omega
    · have hbound := ha.length (by omega)
      by_cases e4 : h.length = 3
      · rw [getD_concat_of_lt (by omega)]
        omega
      · have hne := incomplete_of_progress hv (by omega)
        rw [getD_concat_of_lt (by omega)] at hne ⊢
        omega

/-- The bytes kept after a verdict are an attempt again. -/
theorem Attempt.kept (ha : Attempt cfg h) (hearly : cfg.earlyLengthCheck = true) (b : Byte) :
    Attempt cfg ((verdict cfg (h ++ [b])).kept (h ++ [b])) := by
  generalize hv : verdict cfg (h ++ [b]) = v
  cases v with
  | progress => exact ha.concat hearly hv
  | slide => exact attempt_of_short (Nat.lt_succ_self 1)
  | magicErr => exact attempt_of_short Nat.two_pos
  | lengthErr => exact attempt_of_short Nat.two_pos
  | checksumErr => exact attempt_of_short Nat.two_pos
  | accept => exact attempt_of_short Nat.two_pos

end

/-! ### The overrun (R171) -/

section
variable {s : State} {tl : Byte} {bs : Bytes}

/-- The attempt of a decoder at `rc = 2`, with the bytes from total_length on. -/
theorem holds_attempt_at_two (hf : s.fault = .noFault) (hrc : s.rc.toNat = 2) :
    Holds s.cfg ((s.held ++ tl :: bs).take 2) s ∧ (s.held ++ tl :: bs).drop 2 = tl :: bs
      ∧ (s.held ++ tl :: bs).getD 2 0 = tl ∧ (s.held ++ tl :: bs).length = 3 + bs.length := by
  have hlen : s.held.length = 2 := by rw [s.held_length, hrc]
  refine ⟨⟨rfl, hf, (List.take_left' hlen).symm⟩, List.drop_left' hlen, ?_, by simp [hrc]; omega⟩
  rw [List.getD_append_right _ _ _ _ hlen.le, hlen]
  rfl

/-- Without the early length check a total_length never stops an attempt at once. -/
theorem progress_of_literal {cfg : Config} {w : Bytes} {k : Nat} (hearly : cfg.earlyLengthCheck = false)
    (hk2 : 2 ≤ k) (hk : k < w.length) (hne : 4 ≤ k → k + 1 ≠ (w.getD 2 0).toNat) :
    verdict cfg (w.take (k + 1)) = .progress :=
  verdict_take_progress hk (by omega) (by simp [hearly]) hne

/-- A total_length of 0 to 4, or above FRAME_MAX, is never reached, so the buffer fills. -/
theorem pushBytes_fills_buffer (hwf : s.cfg.wf = true) (hearly : s.cfg.earlyLengthCheck = false) (hf : s.fault = .noFault)
    (hrc : s.rc.toNat = 2) (htl : tl.toNat ≤ 4 ∨ s.cfg.frameMax < tl.toNat) (hbs : bs.length = s.cfg.frameMax - 3) :
    ∃ u, pushBytes (tl :: bs) s = .next u ∧ u.cfg = s.cfg ∧ u.fault = .noFault ∧ u.rc.toNat = s.cfg.frameMax := by
  obtain ⟨hlow, hhigh⟩ := Config.frameMax_bounds hwf
  obtain ⟨hs, hdrop, hgetD, hlen⟩ := holds_attempt_at_two (tl := tl) (bs := bs) hf hrc
  have hrun := run_of_progress (w := s.held ++ tl :: bs) (j := 2) (by omega) le_rfl (by omega) fun k hk2 hk =>
    progress_of_literal hearly hk2 hk (by rw [hgetD]; omega)
  rw [List.take_length, hdrop] at hrun
  obtain ⟨u, e, ⟨hcfg, hfault, hheld⟩, -⟩ := hrun.pushBytes hhigh hs
  exact ⟨u, e, hcfg, hfault, by rw [← u.held_length, hheld]; omega⟩

/-- A total_length of 5 to 7 is reached, and is too short for a frame. -/
theorem pushBytes_short_frame (hwf : s.cfg.wf = true) (hearly : s.cfg.earlyLengthCheck = false) (hf : s.fault = .noFault)
    (hrc : s.rc.toNat = 2) (h5 : 5 ≤ tl.toNat) (h7 : tl.toNat ≤ 7) (hbs : bs.length = tl.toNat - 3) :
    ∃ u, pushBytes (tl :: bs) s = .next u ∧ u.rc = 0 ∧ u.fault = .noFault
      ∧ u.out = { status := .ok, val := .push none .lengthErr, asks := [] } := by
  obtain ⟨hlow, hhigh⟩ := Config.frameMax_bounds hwf
  obtain ⟨hs, hdrop, hgetD, hlen⟩ := holds_attempt_at_two (tl := tl) (bs := bs) hf hrc
  have hv := verdict_complete (cfg := s.cfg) (f := s.held ++ tl :: bs) (by omega) (by rw [hgetD]; omega)
  rw [if_pos (.inl (by omega))] at hv
  obtain ⟨t, u, e, hu, hholds⟩ := push_attempt (n := tl.toNat - 1) hs hhigh (by omega) (by omega) (by omega)
    (fun k hk2 hk => progress_of_literal hearly hk2 (by omega) (by rw [hgetD]; omega)) hv
  rw [hdrop] at e
  exact ⟨u, e, BitVec.eq_of_toNat_eq hu.rc, hholds.fault, hu.out⟩

end

/-- Settles O26. Under the invariant and the early length check there is room for the byte, as `rc` is below total_length;
without the check, by `pushBytes_fills_buffer` and `pushBytes_short_frame`. -/
theorem lengthRuleGovernsOverrun : Obligations.LengthRuleGovernsOverrun := by
  refine ⟨fun s b hinv hearly hf => ?_, fun s tl b bs hwf hearly hf hrc htl hbs => ?_,
    fun s tl bs hwf hearly hf hrc h5 h7 hbs => pushBytes_short_frame hwf hearly hf hrc h5 h7 hbs⟩
  · obtain ⟨hwf, -, hdec, -⟩ := hinv
    obtain ⟨hlow, hhigh⟩ := Config.frameMax_bounds hwf
    have hroom : s.rc.toNat < s.cfg.frameMax := by
      by_cases h3 : 3 ≤ s.rc.toNat
      · obtain ⟨-, hlt, hle⟩ := hdec.length h3 hearly
        omega
      · omega
    obtain ⟨t, e, ht⟩ := exec_pushByte_pushed b hf hroom hhigh
    exact ⟨t, e, by rw [ht.frame]; exact hf⟩
  · obtain ⟨u, e, hcfg, hfault, hfull⟩ := pushBytes_fills_buffer hwf hearly hf hrc htl hbs
    exact ⟨u, e, hfault, hfull, exec_pushByte_of_full b hfault (by rw [hfull, hcfg])⟩

end Sys2Proof.Machine
end

section
/-!
PROOFS. A frame with one corrupted byte (spec 41_decoder.md R167): the byte that changed decides which check fails, and where.
-/

namespace Sys2Proof.Machine

/-! ### Only its own frame gives a packet -/

section
variable {cfg : Config} {h : Bytes} {b : Byte}

/-- Bytes that start with the magic pair and are accepted are the frame of their packet. -/
theorem eq_frameBytes_of_accept {f : Bytes} (h0 : f.getD 0 0 = cfg.magicA) (h1 : f.getD 1 0 = cfg.magicB)
    (hv : verdict cfg f = .accept) : f = frameBytes cfg (listPacket f) := by
  have hlen := length_of_verdict_accept hv
  obtain ⟨htl, hpl, hchk⟩ := valid_of_accept hv
  match f, hlen with
  | _ :: _ :: tl :: c :: _ :: n :: _ :: _ :: r, _ =>
    simp only [List.getD_cons_zero, List.getD_cons_succ, List.length_cons, List.drop_succ_cons, List.drop_zero] at *
    have hr : r.length = n.toNat := by omega
    have htl' : 8 + n.toNat = tl.toNat := by omega
    simp [frameBytes, packetRegion, listPacket, h0, h1, hr, htl', ← hchk]

/-- Under ANY, only the packet's own frame makes the decoder output it. -/
theorem Attempt.eq_frameBytes (ha : Attempt cfg h) (hany : cfg.magicCheck = .any)
    (hv : verdict cfg (h ++ [b]) = .accept) : h ++ [b] = frameBytes cfg (listPacket (h ++ [b])) := by
  have hlen := length_of_verdict_accept hv
  simp only [List.length_append, List.length_singleton] at hlen
  obtain ⟨h0, h1⟩ := (magicOk_any hany _ _).mp (ha.magic (by omega))
  exact eq_frameBytes_of_accept (by rwa [getD_concat_of_lt (by omega)]) (by rwa [getD_concat_of_lt (by omega)]) hv

end

/-- The packet `p` is not output. -/
def Withholds (p : Packet) (_e : RxEvent) (q : Option Packet) : Prop := q ≠ some p

/-- Bytes that are not the frame of `p`, and not more of them than it has, never give `p`: an attempt that gave it would be
that frame, and would be all of the bytes (R167). -/
theorem run_withholding {cfg : Config} {p : Packet} (hany : cfg.magicCheck = .any) (hearly : cfg.earlyLengthCheck = true)
    (hlow : 8 ≤ cfg.frameMax) (w : Bytes) (hlen : w.length ≤ (frameBytes cfg p).length) (hne : w ≠ frameBytes cfg p) :
    ∃ h, Run cfg (Withholds p) [] w h ∧ Attempt cfg h ∧ h <:+ w := by
  induction w using List.reverseRecOn with
  | nil => exact ⟨[], .nil, attempt_of_short Nat.two_pos, List.suffix_rfl⟩
  | append_singleton w b ih =>
    have hlen' : w.length < (frameBytes cfg p).length := by simpa using hlen
    obtain ⟨h, hrun, ha, hsuffix⟩ := ih hlen'.le fun heq => hlen'.ne (congrArg List.length heq)
    have hsuffix' : h ++ [b] <:+ w ++ [b] := by
      obtain ⟨t, rfl⟩ := hsuffix
      exact ⟨t, by simp⟩
    refine ⟨_, hrun.snoc (ha.room hlow) rfl fun hp => ?_, ha.kept hearly b, (kept_suffix cfg _).trans hsuffix'⟩
    obtain ⟨hv, hpkt⟩ := Verdict.packet_eq_some.mp hp
    have hframe := ha.eq_frameBytes hany hv
    rw [hpkt] at hframe
    exact hne ((hsuffix'.eq_of_length_le (by rw [hframe]; exact hlen)).symm.trans hframe)

/-! ### Corrupted bytes -/

/-- The bytes `f` with the `i`-th one changed by `d`. -/
def corrupt (f : Bytes) (i : Nat) (d : Byte) : Bytes := f.set i (f.getD i 0 ^^^ d)

section
variable {cfg : Config} {f : Bytes} {i : Nat} {d : Byte}

@[simp] theorem corrupt_length : (corrupt f i d).length = f.length := List.length_set

theorem getD_set_of_ne {j : Nat} {a : Byte} (h : i ≠ j) : (f.set i a).getD j 0 = f.getD j 0 := by
  simp [List.getD_eq_getElem?_getD, List.getElem?_set_ne h]

theorem getD_set_self {a : Byte} (h : i < f.length) : (f.set i a).getD i 0 = a := by
  simp [List.getD_eq_getElem?_getD, h]

theorem xor_ne_self {a : Byte} (hd : d ≠ 0) : a ^^^ d ≠ a := by
  intro h
  have hcancel := congrArg (a ^^^ ·) h
  exact hd (by simpa [← BitVec.xor_assoc] using hcancel)

theorem getD_corrupt_of_ne {j : Nat} (h : i ≠ j) : (corrupt f i d).getD j 0 = f.getD j 0 := getD_set_of_ne h

theorem getD_corrupt_self_ne (hd : d ≠ 0) (h : i < f.length) : (corrupt f i d).getD i 0 ≠ f.getD i 0 :=
  (getD_set_self h).trans_ne (xor_ne_self hd)

theorem corrupt_ne (hd : d ≠ 0) (h : i < f.length) : corrupt f i d ≠ f :=
  fun heq => getD_corrupt_self_ne hd h (congrArg (·.getD i 0) heq)

/-- No initial part of the corrupted bytes is the original. -/
theorem take_corrupt_ne (hd : d ≠ 0) (h : i < f.length) (k : Nat) : (corrupt f i d).take k ≠ f := by
  intro heq
  have hk : (corrupt f i d).length ≤ k := by simpa using congrArg List.length heq.symm
  rw [List.take_of_length_le hk] at heq
  exact corrupt_ne hd h heq

/-- A corruption of the packet region changes its checksum (R135). -/
theorem chk_drop_corrupt_ne (hd : d ≠ 0) (h4 : 4 ≤ i) (h : i < f.length) :
    chk cfg ((corrupt f i d).drop 4) ≠ chk cfg (f.drop 4) := by
  obtain ⟨j, rfl⟩ := Nat.exists_eq_add_of_le h4
  have hbyte : f.getD (4 + j) 0 = (f.drop 4).getD j 0 := by simp [List.getD_eq_getElem?_getD]
  rw [corrupt, List.drop_set, if_neg (by omega), Nat.add_sub_cancel_left, hbyte, chk_set cfg d (by simp; omega)]
  exact xor_ne_self hd

end

/-! ### Corrupted frames -/

section
variable {cfg : Config} {p : Packet} {i : Nat} {d : Byte} {s : State}

theorem frameBytes_total_length (hp : p.payload.length ≤ 247) :
    ((frameBytes cfg p).getD 2 0).toNat = 8 + p.payload.length := frameWith_getD_two hp

theorem frameBytes_payload_length (hp : p.payload.length ≤ 247) :
    ((frameBytes cfg p).getD 5 0).toNat = p.payload.length := frameWith_getD_five hp

/-- No initial part of the corrupted frame makes the decoder output the frame's packet, or fault. -/
theorem pushBytes_corrupt_withholds (hany : cfg.magicCheck = .any) (hearly : cfg.earlyLengthCheck = true)
    (hlow : 8 ≤ cfg.frameMax) (hmax : cfg.frameMax ≤ 255) (hs : Holds cfg [] s) (hd : d ≠ 0)
    (hi : i < (frameBytes cfg p).length) {k : Nat} (hk : k < (frameBytes cfg p).length) :
    ∃ u, pushBytes ((corrupt (frameBytes cfg p) i d).take (k + 1)) s = .next u ∧ u.fault = .noFault
      ∧ ∀ e, u.out.val ≠ .push (some p) e := by
  obtain ⟨h, hrun, -⟩ := run_withholding hany hearly hlow _ (by simp) (take_corrupt_ne hd hi (k + 1))
  obtain ⟨u, e, hu, hout⟩ := hrun.pushBytes hmax hs
  obtain ⟨ev, q, hq, ho⟩ := hout (take_succ_ne_nil (by simpa using hk))
  refine ⟨u, e, hu.fault, fun ev' hev => hq ?_⟩
  rw [ho] at hev
  exact (OutVal.push.inj hev).1

/-- A corrupted magic byte is a MAGIC_ERR at the second byte. -/
theorem rejectsWith_of_corrupt_magic (hany : cfg.magicCheck = .any) (hlow : 8 ≤ cfg.frameMax) (hmax : cfg.frameMax ≤ 255)
    (hs : Holds cfg [] s) (hd : d ≠ 0) (hi : i < 2) :
    RejectsWith ((corrupt (frameBytes cfg p) i d).take 2) .magicErr s := by
  have hlen := frameBytes_length cfg p
  have hchanged := getD_corrupt_self_ne (f := frameBytes cfg p) hd (i := i) (by omega)
  refine rejectsWith_magicErr hs hlow hmax (by simp; omega) ?_
  rw [getD_take_of_lt (by omega), getD_take_of_lt (by omega), magicOk_any hany]
  rintro ⟨h0, h1⟩
  obtain rfl | rfl : i = 0 ∨ i = 1 := by omega
  · exact hchanged h0
  · exact hchanged h1

/-- A total_length out of range is a LENGTH_ERR at the third byte. -/
theorem rejectsWith_of_length_out_of_range (hearly : cfg.earlyLengthCheck = true) (hlow : 8 ≤ cfg.frameMax)
    (hmax : cfg.frameMax ≤ 255) (hs : Holds cfg [] s) {a : Byte} (hout : a.toNat < 8 ∨ cfg.frameMax < a.toNat) :
    RejectsWith (((frameBytes cfg p).set 2 a).take 3) .lengthErr s := by
  have hlen := frameBytes_length cfg p
  refine rejectsWith_early_lengthErr hs hlow hmax (by simp; omega) ?_ hearly ?_
  · rw [getD_take_of_lt (by omega), getD_take_of_lt (by omega)]
    exact magicOk_magic cfg
  · rw [getD_take_of_lt (by omega), lengthOutOfRange_iff]
    exact hout

/-- Another total_length in range is a LENGTH_ERR where it says the frame ends, because payload_length disagrees. -/
theorem rejectsWith_of_other_length (hs : Holds cfg [] s) (hmax : cfg.frameMax ≤ 255) {a : Byte} {tail : Bytes}
    (hp : p.payload.length ≤ 247) (ha : a.toNat ≠ 8 + p.payload.length) (hlow : 8 ≤ a.toNat)
    (hhigh : a.toNat ≤ cfg.frameMax) (htail : a.toNat ≤ ((frameBytes cfg p).set 2 a ++ tail).length) :
    RejectsWith (((frameBytes cfg p).set 2 a ++ tail).take a.toNat) .lengthErr s := by
  have hlen : (((frameBytes cfg p).set 2 a ++ tail).take a.toNat).length = a.toNat := by
    rw [List.length_take, min_eq_left htail]
  have hgetD (j : Nat) (hj : j < 8) :
      (((frameBytes cfg p).set 2 a ++ tail).take a.toNat).getD j 0 = ((frameBytes cfg p).set 2 a).getD j 0 := by
    rw [getD_take_of_lt (by omega), List.getD_append _ _ _ _ (by simp [frameBytes_length]; omega)]
  have hw : CompleteAttempt cfg (((frameBytes cfg p).set 2 a ++ tail).take a.toNat) := by
    refine ⟨?_, by omega, by omega, ?_⟩
    · rw [hgetD 0 (by omega), hgetD 1 (by omega)]
      exact magicOk_magic cfg
    · rw [hgetD 2 (by omega), hlen]
      rfl
  refine hw.rejectsWith_lengthErr hs hmax ?_
  rw [hgetD 5 (by omega), getD_set_of_ne (by omega), frameBytes_payload_length hp, hlen]
  exact ha

/-- A frame whose first three bytes are intact is complete at its last byte. -/
theorem completeAttempt_corrupt (hfit : 8 + p.payload.length ≤ cfg.frameMax) (hmax : cfg.frameMax ≤ 255) (h3 : 3 ≤ i) :
    CompleteAttempt cfg (corrupt (frameBytes cfg p) i d) := by
  have hlen := frameBytes_length cfg p
  refine ⟨?_, by simp; omega, by simp; omega, ?_⟩
  · rw [getD_corrupt_of_ne (by omega), getD_corrupt_of_ne (by omega)]
    exact magicOk_magic cfg
  · rw [getD_corrupt_of_ne (by omega), corrupt_length, hlen, frameBytes_total_length (by omega)]

/-- A corrupted payload_length is a LENGTH_ERR at the last byte. -/
theorem rejectsWith_of_corrupt_payload_length (hfit : 8 + p.payload.length ≤ cfg.frameMax) (hmax : cfg.frameMax ≤ 255)
    (hs : Holds cfg [] s) (hd : d ≠ 0) : RejectsWith (corrupt (frameBytes cfg p) 5 d) .lengthErr s := by
  have hlen := frameBytes_length cfg p
  have hchanged := getD_corrupt_self_ne (f := frameBytes cfg p) hd (i := 5) (by omega)
  have hpl := frameBytes_payload_length (cfg := cfg) (p := p) (by omega)
  refine (completeAttempt_corrupt hfit hmax (by omega)).rejectsWith_lengthErr hs hmax fun heq => hchanged ?_
  rw [corrupt_length] at heq
  exact BitVec.eq_of_toNat_eq (by omega)

/-- A corrupted checksum, or a corruption of the packet region outside payload_length, is a CHECKSUM_ERR at the last byte. -/
theorem rejectsWith_of_corrupt_checksum (hfit : 8 + p.payload.length ≤ cfg.frameMax) (hmax : cfg.frameMax ≤ 255)
    (hs : Holds cfg [] s) (hd : d ≠ 0) (hi : i < (frameBytes cfg p).length) (h3 : 3 ≤ i) (h5 : i ≠ 5) :
    RejectsWith (corrupt (frameBytes cfg p) i d) .checksumErr s := by
  have hpl : (corrupt (frameBytes cfg p) i d).length = 8 + ((corrupt (frameBytes cfg p) i d).getD 5 0).toNat := by
    rw [corrupt_length, getD_corrupt_of_ne h5, frameBytes_length, frameBytes_payload_length (by omega)]
  refine (completeAttempt_corrupt hfit hmax h3).rejectsWith_checksumErr hs hmax hpl ?_
  by_cases e3 : i = 3
  · subst e3
    have hregion : (corrupt (frameBytes cfg p) 3 d).drop 4 = (frameBytes cfg p).drop 4 := List.drop_set_of_lt (by omega)
    rw [hregion]
    exact (getD_corrupt_self_ne hd hi).symm
  · rw [getD_corrupt_of_ne e3]
    exact chk_drop_corrupt_ne hd (by omega) hi

end

/-- Settles O28, by the lemma of each place the changed byte can have. -/
theorem oneCorruptedByteIsDetected : Obligations.OneCorruptedByteIsDetected := by
  intro s p f i d hwf hany hearly hframe hf hrc hi hd g v
  obtain ⟨hlow, hhigh⟩ := Config.frameMax_bounds hwf
  obtain ⟨rfl, hfit⟩ := hframe.eq_frameBytes hhigh
  have hs := holds_of_ready hf hrc
  have hv (h2 : i = 2) : v = ((frameBytes s.cfg p).getD i 0 ^^^ d).toNat := by
    subst h2
    exact congrArg BitVec.toNat (getD_set_self hi)
  refine ⟨fun k hk => pushBytes_corrupt_withholds hany hearly hlow hhigh hs hd hi hk,
    rejectsWith_of_corrupt_magic hany hlow hhigh hs hd, fun h2 hout => ?_, fun h2 hv8 hvmax tail htail => ?_, fun h5 => ?_,
    fun h346 => rejectsWith_of_corrupt_checksum hfit hhigh hs hd hi (by omega) (by omega)⟩
  · rw [hv h2] at hout
    subst h2
    exact rejectsWith_of_length_out_of_range hearly hlow hhigh hs hout
  · have hne : v ≠ 8 + p.payload.length := by
      rw [hv h2, h2, ← frameBytes_total_length (cfg := s.cfg) (by omega)]
      exact mt BitVec.eq_of_toNat_eq (xor_ne_self hd)
    rw [hv h2] at hv8 hvmax hne htail ⊢
    subst h2
    exact rejectsWith_of_other_length hs hhigh (by omega) hne hv8 hvmax htail
  · subst h5
    exact rejectsWith_of_corrupt_payload_length hfit hhigh hs hd

end Sys2Proof.Machine
end

section
/-!
PROOFS. The requests of the catalog (spec 42_dispatch.md R180, R185 to R199): BUILD_REQUEST of a command and the command run
as an instruction (log entry 2) end alike, so each request is settled by the payload its command builds. The settling
theorems stand in a namespace of their own, as the model's payload functions have the same names.
-/

namespace Sys2Proof.Machine

/-- A built payload goes out as a request, or is too long for a frame (R180). -/
theorem finishRequest_code (s : State) (k : Command) (re : Bool) (pl : Bytes) (asks : List Ask) :
    finishRequest (s.cfg.code k) re { asks := asks, payload := .ok pl } s = requestedIfFits s k re pl asks := by
  by_cases hfit : 8 + pl.length ≤ s.cfg.frameMax
  · rw [requestedIfFits, if_pos hfit]
    exact if_neg (mt of_decide_eq_true (Nat.not_lt_of_le hfit))
  · rw [requestedIfFits, if_neg hfit]
    exact if_pos (decide_eq_true (Nat.lt_of_not_le hfit))

theorem requestedIfFits_of_fits {s : State} {pl : Bytes} (hfit : 8 + pl.length ≤ s.cfg.frameMax) (k : Command) (re : Bool)
    (asks : List Ask) : requestedIfFits s k re pl asks = requested s k re pl asks := if_pos hfit

section
variable {s : State} {k : Command} {re : Bool}

theorem execBuildRequest_code (hwf : s.cfg.wf = true) (hf : s.fault = .noFault) :
    execBuildRequest (s.cfg.code k) re s = .next (finishRequest (s.cfg.code k) re (requestPayload k s) s) := by
  rw [execBuildRequest, unlessFaulted_ok s _ hf, Config.commandOf_code _ hwf]

theorem execBuildRequest_faulted {c : Byte} (hf : s.fault ≠ .noFault) : execBuildRequest c re s = .next s.reportFault :=
  unlessFaulted_faulted s _ hf

/-- Both forms of a request end with the payload of the command. -/
theorem request_forms (hwf : s.cfg.wf = true) (hf : s.fault = .noFault) {t : State}
    (ht : finishRequest (s.cfg.code k) re (requestPayload k s) s = t) :
    exec (.buildRequest (s.cfg.code k) re) s = .next t
      ∧ (s.data.action = .request re → exec k.instr s = .next t) := by
  subst ht
  refine ⟨execBuildRequest_code hwf hf, fun ha => ?_⟩
  rw [exec_command, runCommand_request _ _ _ _ hf ha]

/-- Both forms of a request whose payload is built without a fault. -/
theorem request_forms_of_payload (hwf : s.cfg.wf = true) (hf : s.fault = .noFault) {pl : Bytes} {asks : List Ask}
    (hb : requestPayload k s = { asks := asks, payload := .ok pl }) :
    exec (.buildRequest (s.cfg.code k) re) s = .next (requestedIfFits s k re pl asks)
      ∧ (s.data.action = .request re → exec k.instr s = .next (requestedIfFits s k re pl asks)) :=
  request_forms hwf hf (by rw [hb, finishRequest_code])

end

/-- BUILD_REQUEST: the sticky fault, a fault of its own, or the packet with the next sequence number. -/
theorem execBuildRequest_cases (c : Byte) (re : Bool) (s : State) :
    (s.fault ≠ .noFault ∧ execBuildRequest c re s = .next s.reportFault)
      ∨ (∃ code asks, code ≠ .noFault ∧ execBuildRequest c re s = .next (s.raiseFault code asks))
      ∨ ∃ pl asks, s.fault = .noFault
          ∧ execBuildRequest c re s = .next (s.bumpSeq.drive (.request (requestPacket s c re pl)) asks) := by
  unfold execBuildRequest
  obtain ⟨hf, e⟩ | ⟨hf, e⟩ := unlessFaulted_cases s _ <;> rw [e]
  · exact .inl ⟨hf, rfl⟩
  refine .inr ?_
  cases s.cfg.commandOf c with
  | none => exact .inl ⟨.illegalOp, [], by decide, rfl⟩
  | some k =>
    obtain ⟨code, hcode, e⟩ | ⟨pl, -, -, e⟩ | ⟨pl, -, -, e⟩ := finishRequest_cases c re (requestPayload k s) s
    · obtain ⟨-, rfl, -⟩ := requestPayload_error k s code hcode
      exact .inl ⟨.callbackContract, _, by decide, congrArg Host.Outcome.next e⟩
    · exact .inl ⟨.frameOverflow, _, by decide, congrArg Host.Outcome.next e⟩
    · exact .inr ⟨pl, _, hf, congrArg Host.Outcome.next e⟩

/-- `export_state`'s contract as R189 words it. -/
theorem exportKeepsContract_iff {s : State} :
    exportKeepsContract s = true
      ↔ s.answers.exportLen ≤ s.cfg.frameMax - 8 - 1 ∧ s.answers.exportData.length = s.answers.exportLen := by
  rw [exportKeepsContract, Bool.and_eq_true, decide_eq_true_eq, beq_iff_eq, Config.pmax]

/-- A log-event record with its fields written out (R100). -/
theorem logRecord_eq {cfg : Config} {g : LogArgs}
    (htext : cfg.logIsText.getLsbD g.logType.toNat = true → g.text.length = cfg.logDataLen) :
    logRecord cfg g
      = [g.logType, g.status, g.source, g.sourceIndex] ++ u32Bytes cfg.endian g.timestamp ++ u32Bytes cfg.endian g.count
        ++ if cfg.logIsText.getLsbD g.logType.toNat then g.text
          else u32Bytes cfg.endian g.fbits ++ u32Bytes cfg.endian g.ival ++ List.replicate (cfg.logDataLen - 8) 0 := by
  have hdata : logData cfg g
      = if cfg.logIsText.getLsbD g.logType.toNat then g.text
        else u32Bytes cfg.endian g.fbits ++ u32Bytes cfg.endian g.ival ++ List.replicate (cfg.logDataLen - 8) 0 := by
    unfold logData Config.isTextLog zeros
    split
    · next ht => exact lane_of_length _ _ (htext ht)
    · rw [bytes32_eq, bytes32_eq]
  rw [logRecord, hdata, bytes32_eq, bytes32_eq]

end Sys2Proof.Machine

namespace Sys2Proof.Requests

open Machine

/-- Settles O38: a fetch, a store whose answer keeps the contract of `export_state`, and one whose answer breaks it. -/
theorem stateRequest : Obligations.StateRequest := by
  intro s re hwf hf n d ask t
  by_cases hstore : s.data.store = true
  · by_cases hkeep : n ≤ s.cfg.frameMax - 8 - 1 ∧ d.length = n
    · have hb : requestPayload .state s = { asks := [ask], payload := .ok (storePayload s.cfg d) } := by
        simp only [requestPayload, Machine.stateRequest, if_pos hstore, if_pos (exportKeepsContract_iff.mpr hkeep)]
        rfl
      have ht : t = requestedIfFits s .state re (storePayload s.cfg d) [ask] := by
        simp only [t, if_neg (ne_false_of_eq_true hstore), if_pos hkeep]
        rfl
      exact ht ▸ request_forms_of_payload hwf hf hb
    · have hb : requestPayload .state s = { asks := [ask], payload := .error .callbackContract } := by
        simp only [requestPayload, Machine.stateRequest, if_pos hstore, if_neg (mt exportKeepsContract_iff.mp hkeep)]
        rfl
      have ht : t = s.raiseFault .callbackContract [ask] := by
        simp only [t, if_neg (ne_false_of_eq_true hstore), if_neg hkeep]
        rfl
      exact request_forms (k := .state) hwf hf (by rw [hb, ht]; rfl)
  · have hb : requestPayload .state s = Built.plain (fetchPayload s.cfg) := if_neg hstore
    have ht : t = requestedIfFits s .state re (fetchPayload s.cfg) [] := if_pos (Bool.eq_false_of_not_eq_true hstore)
    exact ht ▸ request_forms_of_payload hwf hf hb

/-- Settles O39: the payload is the record of `logRecord_eq`. -/
theorem logRequest : Obligations.LogRequest := by
  intro s re hwf hf g e htext data t
  exact request_forms_of_payload (k := .log) hwf hf (congrArg Built.plain (logRecord_eq htext))

/-- Settles O34: the payload is empty, and an empty payload fits every frame. -/
theorem requestsWithoutPayload : Obligations.RequestsWithoutPayload := by
  intro s re k i hwf hf hk
  rw [← requestedIfFits_of_fits (pl := []) (Config.frameMax_bounds hwf).1 k re []]
  simp only [List.mem_cons, Prod.mk.injEq, List.not_mem_nil, or_false] at hk
  obtain ⟨rfl, rfl⟩ | ⟨rfl, rfl⟩ | ⟨rfl, rfl⟩ | ⟨rfl, rfl⟩ | ⟨rfl, rfl⟩ | ⟨rfl, rfl⟩ := hk
  all_goals exact request_forms_of_payload hwf hf rfl

/-- Settles O35: the payload is PING_TEXT, which legal parameters make fit (R21). -/
theorem pingRequest : Obligations.PingRequest := by
  intro s re hwf hf
  obtain ⟨hlow, -, -, -, -, -, -, -, hping, -⟩ := (Config.wf_iff s.cfg).mp hwf
  have hfit : 8 + s.cfg.pingText.length ≤ s.cfg.frameMax := by
    unfold Config.pmax at hping
    omega
  rw [← requestedIfFits_of_fits hfit]
  exact request_forms_of_payload (k := .ping) hwf hf rfl

/-- Settles O36: strings of their fixed lengths are presented as they are. -/
theorem authRequest : Obligations.AuthRequest := by
  intro s re hwf hf hssid hpass t
  refine request_forms_of_payload (k := .auth) hwf hf (congrArg Built.plain ?_)
  rw [lane_of_length _ _ hssid, lane_of_length _ _ hpass]

/-- Settles O37: the payload by the presence of a blob. -/
theorem configRequest : Obligations.ConfigRequest := by
  intro s re hwf hf t
  cases hblob : s.data.blob with
  | none =>
    have hb : requestPayload .config s = Built.plain (fetchPayload s.cfg) := by
      simp only [requestPayload, Machine.configRequest, hblob]
    have ht : t = requestedIfFits s .config re (fetchPayload s.cfg) [] := by
      simp only [t, hblob]
      rfl
    exact ht ▸ request_forms_of_payload hwf hf hb
  | some b =>
    have hb : requestPayload .config s = Built.plain (storePayload s.cfg b) := by
      simp only [requestPayload, Machine.configRequest, hblob]
    have ht : t = requestedIfFits s .config re (storePayload s.cfg b) [] := by
      simp only [t, hblob]
      rfl
    exact ht ▸ request_forms_of_payload hwf hf hb

/-- Settles O40: each payload is `bytes_32` of the command's operand. -/
theorem millisecondRequests : Obligations.MillisecondRequests := by
  intro s re k i v hwf hf hk t
  simp only [List.mem_cons, Prod.mk.injEq, List.not_mem_nil, or_false] at hk
  obtain ⟨rfl, rfl, rfl⟩ | ⟨rfl, rfl, rfl⟩ | ⟨rfl, rfl, rfl⟩ := hk
  all_goals exact request_forms_of_payload hwf hf (congrArg Built.plain (bytes32_eq _ _))

/-- Settles O41: the payload is `bytes_32` of `props` and then `bytes_64` of `aux`. -/
theorem setNodePropertiesRequest : Obligations.SetNodePropertiesRequest := by
  intro s re hwf hf t
  refine request_forms_of_payload (k := .setNodeProperties) hwf hf (congrArg Built.plain ?_)
  rw [bytes32_eq, bytes64_eq]

end Sys2Proof.Requests
end

section
/-!
PROOFS. Sequence numbers (spec 42_dispatch.md R181, R202): what an operation does with `seq_ctr`, told by its outputs, and the
numbers of the requests of a run.
-/

namespace Sys2Proof.Machine

/-! ### One operation -/

/-- The request an output shows, if it shows one. -/
def OutVal.request? : OutVal → Option Packet
  | .request p => some p
  | .nothing | .txLen _ | .check _ | .push _ _ | .response _ | .route _ | .frame _ | .statusWords _ _ => none

/-- What an operation other than RESET does with `seq_ctr` (R181): it builds a request, which takes the number and advances
the counter, or it outputs no request and leaves the counter alone. -/
inductive Numbering (n : Byte) (t : State) : Prop
  | request (p : Packet) (out : t.out.val = .request p) (number : p.seq = n) (next : t.seqCtr = n + 1)
  | other (out : t.out.val.request? = none) (keeps : t.seqCtr = n)

/-- Where the operation goes on, it numbers its requests so. -/
def NumberingResult (s : State) (r : Result) : Prop := ∀ t, r = .next t → Numbering s.seqCtr t

section
variable {s : State}

theorem numberingResult_next {t : State} (h : Numbering s.seqCtr t) : NumberingResult s (.next t) := by
  rintro _ ⟨⟩
  exact h

/-- An operation that writes other registers and outputs no request. -/
theorem numberingResult_other {t : State} (out : t.out.val.request? = none) (keeps : t.seqCtr = s.seqCtr) :
    NumberingResult s (.next t) :=
  numberingResult_next (.other out keeps)

theorem numberingResult_fault (f : Fault) : NumberingResult s (.fault f) := by
  rintro _ ⟨⟩

theorem numberingResult_unlessFaulted {k : State → Result} (hk : s.fault = .noFault → NumberingResult s (k s)) :
    NumberingResult s (unlessFaulted s k) := by
  obtain ⟨-, e⟩ | ⟨hf, e⟩ := unlessFaulted_cases s k <;> rw [e]
  · exact numberingResult_other rfl rfl
  · exact hk hf

theorem numberingResult_withPacket {k : Packet → Result} (hk : NumberingResult s (k s.rxPkt)) :
    NumberingResult s (withPacket s k) := by
  obtain ⟨-, e⟩ | ⟨-, e⟩ := withPacket_cases s k <;> rw [e]
  · exact numberingResult_other rfl rfl
  · exact hk

/-- A request that does not fault takes a number; one that faults takes none. -/
theorem finishRequest_numbering (c : Byte) (re : Bool) (b : Built) (s : State) :
    Numbering s.seqCtr (finishRequest c re b s) := by
  obtain ⟨code, -, e⟩ | ⟨pl, -, -, e⟩ | ⟨pl, -, -, e⟩ := finishRequest_cases c re b s <;> rw [e]
  · exact .other rfl rfl
  · exact .other rfl rfl
  · exact .request _ rfl rfl rfl

theorem finishResponse_numbering (q : Packet) (b : Built) (s : State) : Numbering s.seqCtr (finishResponse q b s) := by
  obtain ⟨-, e⟩ | ⟨code, -, -, e⟩ | ⟨pl, -, -, -, e⟩ | ⟨pl, -, -, -, e⟩ := finishResponse_cases q b s <;> rw [e]
  all_goals exact .other rfl rfl

theorem runCommand_numbering (code : Byte) (req : State → Built) (resp : Packet → State → Built)
    (recv : Packet → State → Routed) (s : State) : NumberingResult s (runCommand code req resp recv s) := by
  obtain ⟨-, e⟩ | ⟨-, -, e⟩ | ⟨re, -, -, e⟩ | ⟨-, -, -, e⟩ | ⟨-, -, -, e⟩ := runCommand_cases code req resp recv s <;>
    rw [e]
  · exact numberingResult_other rfl rfl
  · exact numberingResult_other rfl rfl
  · exact numberingResult_next (finishRequest_numbering _ _ _ _)
  · exact numberingResult_next (finishResponse_numbering _ _ _)
  · exact numberingResult_other rfl rfl

theorem execBuildRequest_numbering (c : Byte) (re : Bool) (s : State) : NumberingResult s (execBuildRequest c re s) := by
  obtain ⟨-, e⟩ | ⟨code, asks, -, e⟩ | ⟨pl, asks, -, e⟩ := execBuildRequest_cases c re s <;> rw [e]
  · exact numberingResult_other rfl rfl
  · exact numberingResult_other rfl rfl
  · exact numberingResult_next (.request _ rfl rfl rfl)

theorem execChecksum_numbering (s : State) : NumberingResult s (execChecksum s) :=
  numberingResult_unlessFaulted fun _ => numberingResult_other rfl rfl

theorem execReadStatus_numbering (s : State) : NumberingResult s (execReadStatus s) := numberingResult_other rfl rfl

theorem execBuildResponse_numbering (s : State) : NumberingResult s (execBuildResponse s) :=
  numberingResult_unlessFaulted fun _ => numberingResult_withPacket
    (numberingResult_next (finishResponse_numbering _ _ _))

theorem execOnReceive_numbering (s : State) : NumberingResult s (execOnReceive s) :=
  numberingResult_unlessFaulted fun _ => numberingResult_withPacket (numberingResult_other rfl rfl)

theorem illegalOp_numbering (s : State) : NumberingResult s (illegalOp s) :=
  numberingResult_unlessFaulted fun _ => numberingResult_other rfl rfl

theorem execEncode_numbering (s : State) : NumberingResult s (execEncode s) := by
  refine numberingResult_unlessFaulted fun _ => ?_
  split
  · exact numberingResult_other rfl rfl
  · exact numberingResult_other rfl rfl

theorem execTxFrame_numbering (s : State) : NumberingResult s (execTxFrame s) := by
  refine numberingResult_unlessFaulted fun _ => ?_
  split
  · exact numberingResult_fault _
  · exact numberingResult_other rfl rfl

theorem execPushByte_numbering (b : Byte) (s : State) : NumberingResult s (execPushByte b s) := by
  obtain ⟨-, e⟩ | ⟨-, -, e⟩ | ⟨-, -, e⟩ | ⟨-, -, e⟩ := execPushByte_cases b s <;> rw [e]
  · exact numberingResult_other rfl rfl
  · exact numberingResult_other rfl rfl
  · exact numberingResult_fault _
  · exact numberingResult_other rfl (by rw [push_frame])

end

/-- Every instruction but RESET. -/
theorem exec_numbering {i : Instr} (hi : i ≠ .reset) (s : State) : NumberingResult s (exec i s) := by
  cases i using Instr.port_or_command with
  | reset => exact absurd rfl hi
  | encode => exact execEncode_numbering s
  | checksum => exact execChecksum_numbering s
  | pushByte b => exact execPushByte_numbering b s
  | buildRequest c re => exact execBuildRequest_numbering c re s
  | buildResponse => exact execBuildResponse_numbering s
  | onReceive => exact execOnReceive_numbering s
  | txFrame => exact execTxFrame_numbering s
  | readStatus => exact execReadStatus_numbering s
  | command k => exact exec_command k s ▸ runCommand_numbering _ _ _ _ s

theorem runUncatalogued_numbering (b : Byte) (s : State) : NumberingResult s (runUncatalogued b s) :=
  runCommand_numbering _ _ _ _ s

/-- A selection the decoder rejects; as an uncatalogued command's request it ends with a fault (R200). -/
theorem runUndecoded_numbering (c : Code) (s : State) : NumberingResult s (runUndecoded c s) := by
  cases c with
  | port w => exact illegalOp_numbering s
  | command b => exact runUncatalogued_numbering b s

/-- Only a request and RESET write the counter (R181). -/
theorem exec_keeps_seqCtr {i : Instr} {s t : State} (h : exec i s = .next t) (hreset : i ≠ .reset)
    (hbuild : ∀ c re, i ≠ .buildRequest c re) (hcommand : ∀ k : Command, i ≠ k.instr) : t.seqCtr = s.seqCtr := by
  obtain ⟨-, hseq, -⟩ := registersHaveTheirWriters i s t h
  by_contra hne
  obtain hi | ⟨c, re, hi⟩ | ⟨k, re, hi, -⟩ := hseq hne
  · exact hreset hi
  · exact hbuild c re hi
  · exact hcommand k hi

/-- Settles O42: the outcomes of BUILD_REQUEST, and the writers of `seq_ctr`. -/
theorem sequenceAllocation : Obligations.SequenceAllocation := by
  refine ⟨fun c re s t h => ?_, fun i s t hi h => ?_, fun s => ⟨_, rfl, rfl⟩⟩
  · obtain ⟨hf, e⟩ | ⟨code, asks, hcode, e⟩ | ⟨pl, asks, hf, e⟩ := execBuildRequest_cases c re s <;>
      cases e.symm.trans h
    · exact ⟨fun hok => absurd hok hf, fun _ => rfl⟩
    · exact ⟨fun hok => absurd hok hcode, fun _ => rfl⟩
    · exact ⟨fun _ => ⟨rfl, _, rfl, rfl⟩, fun hbad => absurd hf hbad⟩
  · obtain hi | ⟨b, rfl⟩ := hi
    · simp only [List.mem_cons, List.not_mem_nil, or_false] at hi
      obtain rfl | rfl | rfl | rfl | rfl | rfl := hi
      all_goals exact exec_keeps_seqCtr h nofun nofun (by rintro ⟨⟩ <;> nofun)
    · exact exec_keeps_seqCtr h nofun nofun (by rintro ⟨⟩ <;> nofun)

/-! ### One step -/

/-- No operation still to issue is a RESET. -/
def State.NoReset (s : State) : Prop := ∀ r ∈ s.pending, decode s.cfg r.code ≠ .ok .reset

/-- A selection the decoder rejects changes neither the parameters nor what the host still has to issue. -/
theorem runUndecoded_keeps {c : Code} {s t : State} (h : runUndecoded c s = .next t) :
    t.cfg = s.cfg ∧ t.pending = s.pending := by
  obtain ⟨t', e, heff⟩ := runUndecoded_effect c s
  cases e.symm.trans h
  rw [heff.frame]
  exact ⟨rfl, rfl⟩

/-- A step with an operation issued performs that operation, which is not RESET. -/
theorem step_numbering {s t : State} {r : PortRequest} {rest : List PortRequest} (hp : s.pending = r :: rest)
    (hs : s.NoReset) (h : step s = .next t) : t.NoReset ∧ Numbering s.seqCtr t := by
  have hrest : ∀ q ∈ rest, decode s.cfg q.code ≠ .ok .reset := fun q hq => hs q (hp ▸ List.mem_cons_of_mem r hq)
  cases hd : decode s.cfg r.code with
  | ok i =>
    have hi : i ≠ .reset := fun hi => hs r (hp ▸ List.mem_cons_self) (hi ▸ hd)
    have hexec := (step_of_decode_ok hp hd).symm.trans h
    obtain ⟨⟨hcfg, hpend, -⟩, -⟩ := registersHaveTheirWriters _ _ _ hexec
    refine ⟨?_, exec_numbering hi (s.latch r rest) t hexec⟩
    rw [State.NoReset, hcfg, hpend]
    exact hrest
  | error e =>
    have hrun := (step_of_decode_error hp hd).symm.trans h
    obtain ⟨hcfg, hpend⟩ := runUndecoded_keeps hrun
    refine ⟨?_, runUndecoded_numbering r.code (s.latch r rest) t hrun⟩
    rw [State.NoReset, hcfg, hpend]
    exact hrest

/-! ### A run -/

section
variable {n : Nat} {s t : State}

theorem requestSeqs_idle (hp : s.pending = []) : requestSeqs (n + 1) s = requestSeqs n s := by
  simp [requestSeqs, step_of_pending_nil hp, hp]

theorem requestSeqs_request {r : PortRequest} {rest : List PortRequest} {p : Packet} (hp : s.pending = r :: rest)
    (h : step s = .next t) (hout : t.out.val = .request p) : requestSeqs (n + 1) s = p.seq :: requestSeqs n t := by
  simp [requestSeqs, h, hp, hout]

theorem requestSeqs_other (h : step s = .next t) (hout : t.out.val.request? = none) :
    requestSeqs (n + 1) s = requestSeqs n t := by
  simp only [requestSeqs, h]
  split
  · next hp => simp [hp, OutVal.request?] at hout
  · rfl

theorem requestSeqs_stopped (h : ∀ t, step s ≠ .next t) : requestSeqs (n + 1) s = [] := by
  cases hstep : step s with
  | next t => exact absurd hstep (h t)
  | fault f => simp [requestSeqs, hstep]
  | refused f => simp [requestSeqs, hstep]

end

/-- The numbers of a run's requests count up from `seq_ctr`. -/
theorem requestSeqs_getD (n : Nat) (s : State) (hs : s.NoReset) {i : Nat} (hi : i < (requestSeqs n s).length) :
    (requestSeqs n s).getD i 0 = s.seqCtr + BitVec.ofNat 8 i := by
  induction n generalizing s i with
  | zero => simp [requestSeqs] at hi
  | succ n ih =>
    by_cases hnext : ∃ t, step s = .next t
    case neg =>
      rw [requestSeqs_stopped (not_exists.mp hnext)] at hi
      simp at hi
    obtain ⟨t, hstep⟩ := hnext
    cases hp : s.pending with
    | nil =>
      rw [requestSeqs_idle hp] at hi ⊢
      exact ih s hs hi
    | cons r rest =>
      obtain ⟨ht, hnum⟩ := step_numbering hp hs hstep
      cases hnum with
      | request p hout hseq hctr =>
        rw [requestSeqs_request hp hstep hout] at hi ⊢
        cases i with
        | zero => simp [hseq]
        | succ i =>
          rw [List.getD_cons_succ, ih t ht (by simpa using hi), hctr, Nat.add_comm i 1, BitVec.ofNat_add,
            BitVec.add_assoc]
          rfl
      | other hout hctr =>
        rw [requestSeqs_other hstep hout] at hi ⊢
        rw [ih t ht hi, hctr]

/-- Settles O43: the state's own number is the first of the run. -/
theorem sequenceNumbersAreConsecutive : Obligations.SequenceNumbersAreConsecutive :=
  fun n s hs _ hi => requestSeqs_getD n s hs hi

end Sys2Proof.Machine
end

section
/-!
PROOFS. Responses and routing (spec 42_dispatch.md R182 to R199): the operations on the held packet, what the dispatch engine
leaves alone, and the commands as forms of the port operations.
-/

namespace Sys2Proof

open Machine

theorem Config.code_inj {cfg : Config} (h : cfg.wf = true) (j k : Command) : cfg.code j = cfg.code k ↔ j = k :=
  ⟨Config.code_injective cfg h, congrArg cfg.code⟩

/-- A packet's command byte is outside the catalog, or the code of its command (R91). -/
theorem Config.commandOf_cases (cfg : Config) (c : Byte) :
    (cfg.commandOf c = none ∧ ∀ k, c ≠ cfg.code k) ∨ ∃ k, cfg.commandOf c = some k ∧ c = cfg.code k := by
  cases hc : cfg.commandOf c with
  | some k => exact .inr ⟨k, rfl, (Config.code_of_commandOf cfg c k hc).symm⟩
  | none =>
    refine .inl ⟨rfl, fun k hk => ?_⟩
    simpa [hk] using List.find?_eq_none.mp hc k k.mem_all

namespace Machine

/-! ### The held packet -/

/-- An operation on the held packet, which always goes on: after the sticky-fault check and the held-packet check it ends
with `f` of the packet. -/
def onHeldPacket (s : State) (f : Packet → State) : Result :=
  unlessFaulted s fun s => withPacket s fun q => .next (f q)

section
variable {s : State} (f : Packet → State)

theorem onHeldPacket_faulted (hf : s.fault ≠ .noFault) : onHeldPacket s f = .next s.reportFault :=
  unlessFaulted_faulted s _ hf

theorem onHeldPacket_none (hf : s.fault = .noFault) (hv : s.rxValid = false) :
    onHeldPacket s f = .next (s.raiseFault .noPacket []) := by
  rw [onHeldPacket, unlessFaulted_ok s _ hf, withPacket_next, if_pos hv]

theorem onHeldPacket_held (hf : s.fault = .noFault) (hv : s.rxValid = true) : onHeldPacket s f = .next (f s.rxPkt) := by
  rw [onHeldPacket, unlessFaulted_ok s _ hf, withPacket_next, if_neg (by simp [hv])]

end

theorem execBuildResponse_eq (s : State) :
    execBuildResponse s
      = onHeldPacket s fun q => finishResponse q (responsePayload (s.cfg.commandOf q.cmd) q s) s := rfl

theorem execOnReceive_eq (s : State) :
    execOnReceive s = onHeldPacket s fun q => finishReceive (receiveAction (s.cfg.commandOf q.cmd) q s) s := rfl

theorem exec_command_response (k : Command) {s : State} (ha : s.data.action = .response) :
    exec k.instr s
      = onHeldPacket s fun q => finishResponse { q with cmd := s.cfg.code k } (responsePayload (some k) q s) s := by
  rw [exec_command]
  simp only [runCommand, onHeldPacket, unlessFaulted, ha]

theorem exec_command_receive (k : Command) {s : State} (ha : s.data.action = .receive) :
    exec k.instr s = onHeldPacket s fun q => finishReceive (receiveAction (some k) q s) s := by
  rw [exec_command]
  simp only [runCommand, onHeldPacket, unlessFaulted, ha]

/-! ### Payloads and routes by the packet's command -/

theorem blobFlags_eq_getD (p : Bytes) : blobFlags p = p.getD 0 0 := by cases p <;> rfl

theorem blob_eq_drop (p : Bytes) : blob p = p.drop 1 := by cases p <;> rfl

/-- The payload of a response is `responseData` (R182). -/
theorem responsePayload_eq {s : State} (hwf : s.cfg.wf = true) (q : Packet) :
    responsePayload (s.cfg.commandOf q.cmd) q s
      = { asks := (responseData s.cfg s.answers q).2, payload := .ok (responseData s.cfg s.answers q).1 } := by
  obtain ⟨hc, hq⟩ | ⟨k, hc, hq⟩ := s.cfg.commandOf_cases q.cmd
  · rw [hc]
    simp only [responseData, hq, false_and, if_false]
    rfl
  · rw [hc]
    simp only [responseData, hq, Config.code_inj hwf]
    cases k
    case state =>
      simp only [responsePayload, stateResponse, isFetch, blobFlags_eq_getD, reduceCtorEq, true_and, if_false]
      split <;> rfl
    case time => exact congrArg (fun pl => ({ asks := [.nowMs], payload := .ok pl } : Built)) (bytes32_eq _ _)
    all_goals rfl

/-- The end of ON_RECEIVE, by the packet's command and blob flags (R183). -/
theorem finishReceive_eq {s : State} (hwf : s.cfg.wf = true) (q : Packet) :
    finishReceive (receiveAction (s.cfg.commandOf q.cmd) q s) s
      = if q.cmd = s.cfg.code .config ∧ (q.payload.getD 0 0).getLsbD s.cfg.etBit.val = true then
          answered { s with configured := s.answers.applyConfig } (.route .applyConfig)
            [.applyConfig (q.payload.drop 1) (q.payload.drop 1).length]
        else if q.cmd = s.cfg.code .state ∧ (q.payload.getD 0 0).getLsbD s.cfg.etBit.val = true
            ∧ (q.payload.getD 0 0).getLsbD s.cfg.storeBit.val = true then
          answered s (.route .restoreState) [.restoreState (q.payload.drop 1) (q.payload.drop 1).length]
        else answered s (.route .noRoute) [] := by
  obtain ⟨hc, hq⟩ | ⟨k, hc, hq⟩ := s.cfg.commandOf_cases q.cmd
  · rw [hc]
    simp only [hq, false_and, if_false]
    rfl
  · rw [hc]
    simp only [hq, Config.code_inj hwf]
    cases k
    case config =>
      simp only [receiveAction, configReceive, isEncodedText, blobFlags_eq_getD, blob_eq_drop, reduceCtorEq, true_and,
        false_and, if_false]
      split <;> rfl
    case state =>
      simp only [receiveAction, stateReceive, isEncodedText, isStore, blobFlags_eq_getD, blob_eq_drop, reduceCtorEq,
        true_and, false_and, if_false]
      split <;> rfl
    all_goals rfl

/-- BUILD_RESPONSE's end for a packet with RE set (R182). -/
theorem finishResponse_wanted {s : State} {q : Packet} (hw : wantsResponse s.cfg q.flags = true) (pl : Bytes)
    (asks : List Ask) :
    finishResponse q { asks := asks, payload := .ok pl } s
      = if s.cfg.frameMax < 8 + pl.length then s.raiseFault .frameOverflow asks
        else s.drive (.response (some (responsePacket s.cfg q pl))) asks := by
  simp [finishResponse, hw, overflows]

theorem finishResponse_unwanted {s : State} {q : Packet} (hw : wantsResponse s.cfg q.flags = false) (b : Built) :
    finishResponse q b s = s.drive (.response none) [] := by
  simp [finishResponse, hw]

section
variable {s : State}

theorem exec_buildResponse_unwanted (hf : s.fault = .noFault) (hv : s.rxValid = true)
    (hw : wantsResponse s.cfg s.rxPkt.flags = false) :
    exec .buildResponse s = .next (s.drive (.response none) []) :=
  (onHeldPacket_held _ hf hv).trans (congrArg _ (finishResponse_unwanted hw _))

theorem exec_buildResponse_wanted (hwf : s.cfg.wf = true) (hf : s.fault = .noFault) (hv : s.rxValid = true)
    (hw : wantsResponse s.cfg s.rxPkt.flags = true) :
    exec .buildResponse s
      = .next (if s.cfg.frameMax < 8 + (responseData s.cfg s.answers s.rxPkt).1.length then
          s.raiseFault .frameOverflow (responseData s.cfg s.answers s.rxPkt).2
        else s.drive (.response (some (responsePacket s.cfg s.rxPkt (responseData s.cfg s.answers s.rxPkt).1)))
          (responseData s.cfg s.answers s.rxPkt).2) := by
  refine (onHeldPacket_held _ hf hv).trans (congrArg _ ?_)
  rw [responsePayload_eq hwf, finishResponse_wanted hw]

end

/-- Settles O44, by the four outcomes of BUILD_RESPONSE. -/
theorem buildResponseAnswers : Obligations.BuildResponseAnswers :=
  ⟨by decide, fun _ hwf => ⟨onHeldPacket_faulted _, onHeldPacket_none _, exec_buildResponse_unwanted,
    exec_buildResponse_wanted hwf⟩⟩

/-- Settles O45, by the end of ON_RECEIVE for the held packet. -/
theorem onReceiveRoutes : Obligations.OnReceiveRoutes := by
  refine ⟨by decide, rfl, rfl, rfl, fun s hwf => ⟨?_, ?_, fun hf hv => ?_⟩⟩
  · exact onHeldPacket_faulted _
  · exact onHeldPacket_none _
  · exact (onHeldPacket_held _ hf hv).trans (congrArg _ (finishReceive_eq hwf s.rxPkt))

/-- Settles O46: of the effects of `ExecEffect` only the engine's is left to a dispatch instruction. -/
theorem dispatchTouchesNoCodecOrDecoderState : Obligations.DispatchTouchesNoCodecOrDecoderState := by
  intro i s t hi h
  cases exec_effect h with
  | engine heff => exact heff.frame
  | reset | load | push | overrun | take => cases hi

/-! ### Commands and port operations -/

/-- `s` with `q` as the contents of `rx_pkt`. -/
def State.hold (s : State) (q : Packet) : State := { s with rxPkt := q }

theorem State.hold_self (s : State) : s.hold s.rxPkt = s := rfl

/-- The same operation on another held packet ends in the same state but for that packet, if its end does. -/
theorem onHeldPacket_retag {s : State} {p : Packet} {f g : Packet → State} (h : f s.rxPkt = (g p).hold s.rxPkt) :
    ∃ u, onHeldPacket (s.hold p) g = .next u ∧ onHeldPacket s f = .next (u.hold s.rxPkt) := by
  by_cases hf : s.fault = .noFault
  case neg => exact ⟨_, onHeldPacket_faulted _ hf, onHeldPacket_faulted _ hf⟩
  by_cases hv : s.rxValid = true
  · exact ⟨_, onHeldPacket_held _ hf hv, (onHeldPacket_held _ hf hv).trans (congrArg _ h)⟩
  · have hv' : s.rxValid = false := Bool.eq_false_of_not_eq_true hv
    exact ⟨_, onHeldPacket_none _ hf hv', onHeldPacket_none _ hf hv'⟩

/-- The end of BUILD_RESPONSE neither reads nor writes `rx_pkt`. -/
theorem finishResponse_retag (s : State) (p q : Packet) (b : Built) :
    (finishResponse q b (s.hold p)).hold s.rxPkt = finishResponse q b s := by
  unfold finishResponse
  split
  · next hw =>
    rw [if_pos (show wantsResponse s.cfg q.flags = true from hw)]
    cases b.payload with
    | error code => rfl
    | ok pl =>
      dsimp only
      split
      · next hlong => exact (if_pos hlong).symm
      · next hfit => exact (if_neg hfit).symm
  · next hw => exact (if_neg hw).symm

/-- A response's payload is built from the payload of the held packet, not from its command byte (R182). -/
theorem responsePayload_retag (k : Option Command) (q : Packet) (c : Byte) (s : State) (p : Packet) :
    responsePayload k { q with cmd := c } (s.hold p) = responsePayload k q s := by
  obtain _ | k := k
  · rfl
  · cases k <;> rfl

/-- Nor does the command byte enter the receive action (R183). -/
theorem receiveAction_retag (k : Option Command) (q : Packet) (c : Byte) (s : State) (p : Packet) :
    receiveAction k { q with cmd := c } (s.hold p) = receiveAction k q s := by
  obtain _ | k := k
  · rfl
  · cases k <;> rfl

section
variable {s : State} {k : Command}

/-- A command's response is BUILD_RESPONSE on the held packet taken as a packet of the command. -/
theorem command_response (hwf : s.cfg.wf = true) (ha : s.data.action = .response) :
    ∃ u, exec .buildResponse (s.hold { s.rxPkt with cmd := s.cfg.code k }) = .next u
      ∧ exec k.instr s = .next (u.hold s.rxPkt) := by
  rw [exec_command_response k ha]
  refine onHeldPacket_retag ?_
  have hk : (s.hold { s.rxPkt with cmd := s.cfg.code k }).cfg.commandOf (s.cfg.code k) = some k :=
    Config.commandOf_code _ hwf k
  rw [finishResponse_retag, hk, responsePayload_retag]

/-- A command's receive action is ON_RECEIVE on the held packet taken as a packet of the command. -/
theorem command_receive (hwf : s.cfg.wf = true) (ha : s.data.action = .receive) :
    ∃ u, exec .onReceive (s.hold { s.rxPkt with cmd := s.cfg.code k }) = .next u
      ∧ exec k.instr s = .next (u.hold s.rxPkt) := by
  rw [exec_command_receive k ha]
  refine onHeldPacket_retag ?_
  have hk : (s.hold { s.rxPkt with cmd := s.cfg.code k }).cfg.commandOf (s.cfg.code k) = some k :=
    Config.commandOf_code _ hwf k
  rw [hk, receiveAction_retag]
  rfl

theorem command_request {re : Bool} (hwf : s.cfg.wf = true) (ha : s.data.action = .request re) :
    exec k.instr s = exec (.buildRequest (s.cfg.code k) re) s := by
  rw [exec_command]
  by_cases hf : s.fault = .noFault
  · exact (runCommand_request _ _ _ _ hf ha).trans (execBuildRequest_code hwf hf).symm
  · exact (runCommand_faulted _ _ _ _ hf).trans (execBuildRequest_faulted hf).symm

/-- On a held packet of the command itself the retagging is void, because the port operation keeps `rx_pkt`. -/
theorem eq_exec_of_retag {i : Instr} {r : Result} (hi : dispatchInstr i = true) (hcmd : s.rxPkt.cmd = s.cfg.code k)
    (h : ∃ u, exec i (s.hold { s.rxPkt with cmd := s.cfg.code k }) = .next u ∧ r = .next (u.hold s.rxPkt)) :
    r = exec i s := by
  obtain ⟨u, hu, rfl⟩ := h
  rw [← hcmd] at hu
  have hkeeps : u.rxPkt = s.rxPkt := by rw [dispatchTouchesNoCodecOrDecoderState i _ u hi hu]; rfl
  rw [← hkeeps, State.hold_self]
  exact hu.symm

end

/-- Settles O47: the request, response and receive forms, and the last two on a held packet of the command. -/
theorem commandRunsItsPortOperation : Obligations.CommandRunsItsPortOperation :=
  fun _ _ hwf => ⟨fun _ => command_request hwf, command_response hwf, command_receive hwf,
    fun hcmd ha => eq_exec_of_retag rfl hcmd (command_response hwf ha),
    fun hcmd ha => eq_exec_of_retag rfl hcmd (command_receive hwf ha)⟩

end Machine
end Sys2Proof
end

section
/-!
PROOFS. A request and its answer between two blocks (spec 42_dispatch.md R203): what one block encodes the other holds, and the
holder answers by R182.
-/

namespace Sys2Proof.Machine

section
variable {cfg : Config} {p : Packet} {s : State}

/-- A frame pushed into a ready decoder is held, and the decoder is ready again (R166). -/
theorem pushBytes_frameBytes (hfit : 8 + p.payload.length ≤ cfg.frameMax) (hmax : cfg.frameMax ≤ 255)
    (hs : Holds cfg [] s) :
    ∃ u, pushBytes (frameBytes cfg p) s = .next u ∧ Holds cfg [] u ∧ u.rxValid = true ∧ u.rxPkt = p := by
  have hrun : Run cfg InProgress [] (frameBytes cfg p).dropLast (frameBytes cfg p).dropLast :=
    run_frameWith (magicOk_magic cfg) hfit hmax (Nat.zero_le 1)
  obtain ⟨-, t, u, e, hu, hholds⟩ := hrun.push_frame hfit hmax hs (List.dropLast_append_getLast _).symm
  exact ⟨u, e, hholds, hu.valid, hu.pkt⟩

/-- ENCODE and TX_FRAME hand over the frame of a packet that fits (R131, R241). -/
theorem exec_encode_txFrame (hf : s.fault = .noFault) (hfit : 8 + p.payload.length ≤ s.cfg.frameMax)
    (hmax : s.cfg.frameMax ≤ 255) :
    ∃ t u, exec .encode (s.offer p) = .next t ∧ exec .txFrame t = .next u
      ∧ u.out.val = .frame (frameBytes s.cfg p) := by
  have hlen : (BitVec.ofNat 8 (8 + p.payload.length)).toNat = 8 + p.payload.length := Nat.mod_eq_of_lt (by omega)
  have htaken := execTxFrame_ok (s := ((s.offer p).loadFrame p).drive (.txLen (.ofNat 8 (8 + p.payload.length))) [])
    hf (hlen.trans_le hfit)
  have hbytes := readBytes_loadFrame (s.offer p) p
  rw [← hlen] at hbytes
  exact ⟨_, _, execEncode_fits (s := s.offer p) hf hfit, htaken, congrArg OutVal.frame hbytes⟩

end

/-- A packet that goes out as a request is the one R180 describes, and the block is still without a fault. -/
theorem eq_requestPacket_of_request {c : Byte} {re : Bool} {s t : State} {p : Packet}
    (h : exec (.buildRequest c re) s = .next t) (hout : t.out.val = .request p) :
    ∃ pl asks, s.fault = .noFault ∧ t = s.bumpSeq.drive (.request p) asks ∧ p = requestPacket s c re pl := by
  obtain ⟨-, e⟩ | ⟨code, asks, -, e⟩ | ⟨pl, asks, hf, e⟩ := execBuildRequest_cases c re s <;> cases e.symm.trans h
  · cases hout
  · cases hout
  · cases hout
    exact ⟨pl, asks, hf, rfl, rfl⟩

theorem getLsbD_bitByte : ∀ i : Fin 8, (bitByte i).getLsbD i.val = true := by decide

/-- The receiver of a request reads back the operand `re` (R45, R180). -/
theorem wantsResponse_requestFlags (cfg : Config) (re : Bool) : wantsResponse cfg (requestFlags cfg re) = re := by
  cases re with
  | false => exact BitVec.getLsbD_zero
  | true => exact getLsbD_bitByte cfg.reBit

/-- A block that holds a packet goes on from BUILD_RESPONSE: with no response where none is wanted, and with the response of
R182 where one is wanted and fits. -/
theorem holder_answers {cfg : Config} {p : Packet} {s : State} (hwf : cfg.wf = true) (hs : Holds cfg [] s)
    (hv : s.rxValid = true) (hpkt : s.rxPkt = p) :
    ∃ t, exec .buildResponse s = .next t
      ∧ (wantsResponse cfg p.flags = false → t.out.status = .ok ∧ t.out.val = .response none)
      ∧ (wantsResponse cfg p.flags = true → 8 + (responseData cfg s.answers p).1.length ≤ cfg.frameMax →
          t.out.status = .ok ∧ t.out.val = .response (some (responsePacket cfg p (responseData cfg s.answers p).1))
            ∧ Holds cfg [] t) := by
  obtain ⟨rfl, hf, hheld⟩ := hs
  subst hpkt
  cases hw : wantsResponse s.cfg s.rxPkt.flags with
  | false => exact ⟨_, exec_buildResponse_unwanted hf hv hw, fun _ => ⟨rfl, rfl⟩, nofun⟩
  | true =>
    refine ⟨_, exec_buildResponse_wanted hwf hf hv hw, nofun, fun _ hfit => ?_⟩
    rw [if_neg (Nat.not_lt_of_le hfit)]
    exact ⟨rfl, rfl, rfl, hf, hheld⟩

/-- Settles O50: the peer holds the request by `pushBytes_frameBytes` and answers by `holder_answers`; the frame of the
response is held in turn by the first block. -/
theorem peerAnswersRequest : Obligations.PeerAnswersRequest := by
  intro a a1 b k re p f hwf hcfg hbuild hout hframe hbf hbrc
  have hmax := (Config.frameMax_bounds hwf).2
  obtain ⟨rfl, hfit⟩ := hframe.eq_frameBytes hmax
  obtain ⟨plReq, asks, haf, rfl, hp⟩ := eq_requestPacket_of_request hbuild hout
  have hre : wantsResponse a.cfg p.flags = re := hp ▸ wantsResponse_requestFlags a.cfg re
  have hb : Holds a.cfg [] b := hcfg ▸ holds_of_ready hbf hbrc
  obtain ⟨b1, hpush, hb1, hvalid, hpkt⟩ := pushBytes_frameBytes hfit hmax hb
  refine ⟨b1, hpush, hvalid, hpkt, fun ans => ?_⟩
  intro pl
  have hb1' : Holds a.cfg [] { b1 with answers := ans } := ⟨hb1.cfg_eq, hb1.fault, hb1.held⟩
  obtain ⟨b2, hrespond, hsilent, hanswer⟩ := holder_answers hwf hb1' hvalid hpkt
  refine ⟨b2, hrespond, fun h => hsilent (hre.trans h), fun h hfits => ?_⟩
  obtain ⟨hok, hval, hb2⟩ := hanswer (hre.trans h) hfits
  refine ⟨hok, hval, ?_⟩
  obtain ⟨b3, b4, hencode, htake, hout'⟩ := exec_encode_txFrame (p := responsePacket a.cfg p pl) hb2.fault
    (hb2.cfg_eq ▸ hfits) (hb2.cfg_eq ▸ hmax)
  refine ⟨b3, b4, _, hencode, htake, hout', fun hrc => ?_⟩
  obtain ⟨a2, hback, -, hvalid', hpkt'⟩ := pushBytes_frameBytes (p := responsePacket a.cfg p pl) hfits hmax
    (holds_of_ready (s := a.bumpSeq.drive (.request p) asks) haf hrc)
  exact ⟨a2, hb2.cfg_eq ▸ hback, hvalid', hpkt'⟩

end Sys2Proof.Machine
end

section
/-!
PROOFS. The control operations RESET, TX_FRAME and READ_STATUS (spec 43_control.md R240 to R242), with the fields of the two
status words (spec 10_state.md R48, R49).
-/

namespace Sys2Proof.Machine

/-! ### Fields of a word, as parts of its number -/

section
variable {w : Word32} {k n : Nat}

theorem extract_eq_of_toNat {x : BitVec n} (h : w.toNat / 2 ^ k % 2 ^ n = x.toNat) : w.extractLsb' k n = x :=
  BitVec.eq_of_toNat_eq (by rw [BitVec.extractLsb'_toNat, Nat.shiftRight_eq_div_pow, h])

theorem extract_eq_zero_of_lt (h : w.toNat < 2 ^ k) : w.extractLsb' k n = 0 :=
  extract_eq_of_toNat (by rw [Nat.div_eq_of_lt h, Nat.zero_mod]; exact BitVec.toNat_zero.symm)

theorem getLsbD_eq_of_toNat {b : Bool} (h : w.toNat / 2 ^ k % 2 ^ 1 = (BitVec.ofBool b).toNat) : w.getLsbD k = b := by
  rw [BitVec.getLsbD_eq_extractLsb', extract_eq_of_toNat h]
  cases b <;> rfl

end

section
variable (s : State)

/-! ### The fields of STATUS0 (R48) -/

/-- The sum of shifted fields by which R242 gives STATUS0. -/
theorem status0_toNat :
    (status0 s).toNat
      = (dstateCode s.dstate).toNat + 2 ^ 2 * (BitVec.ofBool s.rxValid).toNat + 2 ^ 3 * (BitVec.ofBool s.txPending).toNat
        + 2 ^ 4 * (BitVec.ofBool s.configured).toNat + 2 ^ 5 * (eventCode s.lastRxEvent).toNat + 2 ^ 8 * s.rc.toNat
        + 2 ^ 16 * s.seqCtr.toNat + 2 ^ 24 * (faultCodeBits s.fault).toNat + 2 ^ 27 * (BitVec.ofBool s.txLost).toNat := by
  simp only [status0, toNat_append_eq, BitVec.ofNat_eq_ofNat, BitVec.toNat_ofNat]
  omega

theorem status0_dstate : (status0 s).extractLsb' 0 2 = dstateCode s.dstate :=
  extract_eq_of_toNat (by rw [status0_toNat]; omega)

theorem status0_rxValid : (status0 s).getLsbD 2 = s.rxValid :=
  getLsbD_eq_of_toNat (by rw [status0_toNat]; omega)

theorem status0_txPending : (status0 s).getLsbD 3 = s.txPending :=
  getLsbD_eq_of_toNat (by rw [status0_toNat]; omega)

theorem status0_configured : (status0 s).getLsbD 4 = s.configured :=
  getLsbD_eq_of_toNat (by rw [status0_toNat]; omega)

theorem status0_lastRxEvent : (status0 s).extractLsb' 5 3 = eventCode s.lastRxEvent :=
  extract_eq_of_toNat (by rw [status0_toNat]; omega)

theorem status0_rc : (status0 s).extractLsb' 8 8 = s.rc :=
  extract_eq_of_toNat (by rw [status0_toNat]; omega)

theorem status0_seqCtr : (status0 s).extractLsb' 16 8 = s.seqCtr :=
  extract_eq_of_toNat (by rw [status0_toNat]; omega)

theorem status0_fault : (status0 s).extractLsb' 24 3 = faultCodeBits s.fault :=
  extract_eq_of_toNat (by rw [status0_toNat]; omega)

theorem status0_txLost : (status0 s).getLsbD 27 = s.txLost :=
  getLsbD_eq_of_toNat (by rw [status0_toNat]; omega)

theorem status0_reserved : (status0 s).extractLsb' 28 4 = 0 :=
  extract_eq_zero_of_lt (by rw [status0_toNat]; omega)

/-! ### The fields of STATUS1 (R49) -/

/-- The payload length in the byte of R49: 0 while no packet is held. -/
def payloadLengthByte : Byte := if s.rxValid then BitVec.ofNat 8 s.rxPkt.payload.length else 0

theorem status1_toNat : (status1 s).toNat = s.txLen.toNat + 2 ^ 8 * (payloadLengthByte s).toNat := by
  rw [status1, ← payloadLengthByte]
  simp only [toNat_append_eq, BitVec.ofNat_eq_ofNat, BitVec.toNat_ofNat]
  omega

theorem status1_txLen : (status1 s).extractLsb' 0 8 = s.txLen :=
  extract_eq_of_toNat (by rw [status1_toNat]; omega)

theorem status1_payloadLength : (status1 s).extractLsb' 8 8 = payloadLengthByte s :=
  extract_eq_of_toNat (by rw [status1_toNat]; omega)

theorem status1_reserved : (status1 s).extractLsb' 16 16 = 0 :=
  extract_eq_zero_of_lt (by rw [status1_toNat]; omega)

/-- Up to the bound of R44 the byte holds the length itself. -/
theorem payloadLengthByte_toNat (hlen : s.rxPkt.payload.length ≤ 255) :
    (payloadLengthByte s).toNat = if s.rxValid then s.rxPkt.payload.length else 0 := by
  unfold payloadLengthByte
  split
  · exact (BitVec.toNat_ofNat _ 8).trans (Nat.mod_eq_of_lt (Nat.lt_succ_of_le hlen))
  · rfl

end

/-! ### READ_STATUS (R242) -/

/-- Settles O15: the words are `status0` and `status1`, field by field; each code is read off its table. -/
theorem readStatusReturnsTheWords : Obligations.ReadStatusReturnsTheWords := by
  refine ⟨by decide, fun s => ⟨status0 s, status1 s, rfl, ?dstate, status0_rxValid s, status0_txPending s,
    status0_configured s, ?event, status0_rc s, status0_seqCtr s, ?fault, status0_txLost s, status0_reserved s,
    status1_txLen s, fun hlen => ?payload, status1_reserved s⟩⟩
  case dstate => rw [status0_dstate]; cases s.dstate <;> rfl
  case event => rw [status0_lastRxEvent]; cases s.lastRxEvent <;> rfl
  case fault => rw [status0_fault]; cases s.fault <;> rfl
  case payload => rw [status1_payloadLength, payloadLengthByte_toNat s hlen]

/-! ### RESET (R240) -/

/-- RESET reads nothing but the parameters and the host's side of the port, which it keeps, so a second one finds its own
result. -/
theorem execReset_again (s : State) :
    execReset (s.resetRegisters.drive .nothing []) = .next (s.resetRegisters.drive .nothing []) := rfl

/-- Settles O12: `State.resetRegisters` and `State.drive` are the updates the statement writes out. -/
theorem resetPutsEveryRegister : Obligations.ResetPutsEveryRegister :=
  ⟨by decide, fun s =>
    ⟨s.resetRegisters.drive .nothing [], rfl, rfl, Memory.read_nil, Memory.read_nil, execReset_again s⟩⟩

/-! ### TX_FRAME (R241) -/

theorem execTxFrame_faulted {s : State} (hf : s.fault ≠ .noFault) : execTxFrame s = .next s.reportFault :=
  unlessFaulted_faulted s _ hf

theorem Memory.getD_readBytes (m : Memory) (a : Nat) {n i : Nat} (h : i < (Memory.readBytes m a n).length) :
    (Memory.readBytes m a n).getD i 0 = Memory.read m (a + i) := by
  rw [List.getD_eq_getElem _ _ h, Memory.getElem_readBytes]

/-- Settles O14, by the two outcomes of `execTxFrame`; the frame is the bytes of `tx_buf` from its start. -/
theorem txFrameHandsOverFrame : Obligations.TxFrameHandsOverFrame := by
  refine ⟨by decide, fun s => ⟨execTxFrame_faulted, fun hf hlen => ?_⟩⟩
  refine ⟨Memory.readBytes s.txBuf 0 s.txLen.toNat, Memory.readBytes_length _ _ _, fun a ha => ?_, execTxFrame_ok hf hlen⟩
  rw [Memory.getD_readBytes _ _ ha, Nat.zero_add]

end Sys2Proof.Machine
end

section
/-!
PROOFS. The exceptions (spec 60_exceptions.md): how an operation enters the faulted state and under which cause, and what is
left to do in it.
-/

namespace Sys2Proof.Machine

/-! ### The faulted state (R258, R259) -/

theorem execPushByte_faulted {s : State} (b : Byte) (hf : s.fault ≠ .noFault) :
    execPushByte b s = .next s.reportFault := unlessFaulted_faulted s _ hf

/-- In the faulted state every instruction but RESET and READ_STATUS only reports. -/
theorem exec_faulted {i : Instr} {s : State} (hf : s.fault ≠ .noFault) (hreset : i ≠ .reset) (hstatus : i ≠ .readStatus) :
    exec i s = .next s.reportFault := by
  cases i using Instr.port_or_command with
  | reset => exact absurd rfl hreset
  | encode => exact execEncode_faulted hf
  | checksum => exact execChecksum_faulted hf
  | pushByte b => exact execPushByte_faulted b hf
  | buildRequest c re => exact execBuildRequest_faulted hf
  | buildResponse => exact onHeldPacket_faulted _ hf
  | onReceive => exact onHeldPacket_faulted _ hf
  | txFrame => exact execTxFrame_faulted hf
  | readStatus => exact absurd rfl hstatus
  | command k => exact (exec_command k s).trans (runCommand_faulted _ _ _ _ hf)

theorem execReadStatus_faulted {s : State} (hf : s.fault ≠ .noFault) :
    execReadStatus s = .next { s with
      out := { status := .fault s.fault, val := .statusWords (status0 s) (status1 s), asks := [] } } := by
  rw [execReadStatus, statusOf, if_neg hf]

/-- An illegal port command word is no instruction, whatever the parameters (R111, R256). -/
theorem step_of_illegalWord {s : State} {r : PortRequest} {rest : List PortRequest} {w : Word32}
    (hp : s.pending = r :: rest) (hcode : r.code = .port w) (hw : IllegalWord w) :
    step s = illegalOp (s.latch r rest) := by
  obtain ⟨e, he⟩ := (portWordRejectedExactlyWhenIllegal w).mpr hw
  have hd : decode s.cfg r.code = .error e := hcode ▸ he
  rw [step_of_decode_error hp hd, hcode]
  rfl

theorem execBuildRequest_unknown {s : State} {c : Byte} (re : Bool) (hf : s.fault = .noFault)
    (hc : ∀ k, s.cfg.code k ≠ c) : execBuildRequest c re s = .next (s.raiseFault .illegalOp []) := by
  rw [execBuildRequest, unlessFaulted_ok s _ hf, Config.commandOf_eq_none hc]

/-- Settles O3: an illegal word is checked after the sticky fault, and an unknown code names no command; `State.latch` and
`State.raiseFault` are the updates the statement writes out. -/
theorem illegalOpRaised : Obligations.IllegalOpRaised := by
  refine ⟨fun s r rest w hp hcode hw => ?_, fun s c re hf hc => ?_⟩
  · rw [step_of_illegalWord hp hcode hw]
    exact ⟨unlessFaulted_ok (s.latch r rest) _, unlessFaulted_faulted (s.latch r rest) _⟩
  · exact execBuildRequest_unknown re hf hc

/-- Settles O53: `State.reportFault` is the update the statement writes out, and RESET does not read `fault`. -/
theorem faultedStateOnlyReports : Obligations.FaultedStateOnlyReports := fun s hf =>
  ⟨fun _ => exec_faulted hf, rfl, ⟨_, _, execReadStatus_faulted hf⟩,
    fun r rest _ hp hcode hw =>
      (step_of_illegalWord hp hcode hw).trans (unlessFaulted_faulted (s.latch r rest) _ hf)⟩

/-- Settles O54: the writers of `fault` in a faulted state are RESET alone. -/
theorem onlyResetLeavesFault : Obligations.OnlyResetLeavesFault := by
  intro i s t hf h
  refine ⟨fun hreset => ?_, fun hreset => ?_⟩
  · obtain ⟨-, -, -, -, -, -, hfault⟩ := registersHaveTheirWriters i s t h
    by_contra hne
    obtain hi | ⟨hnone, -⟩ := hfault hne
    · exact hreset hi
    · exact hf hnone
  · subst hreset
    cases h
    rfl

/-! ### The causes of the faults (R250 to R256) -/

/-- `i` builds a request of the command `k`: as BUILD_REQUEST of its code, or as the command in its request form
(log entry 2). -/
inductive RequestForm (s : State) (k : Command) : Instr → Prop
  | port (re : Bool) : RequestForm s k (.buildRequest (s.cfg.code k) re)
  | command (re : Bool) (action : s.data.action = .request re) : RequestForm s k k.instr

/-- `i` builds the response to the held packet as a packet of the command `k`, if its command byte names one. -/
inductive ResponseForm (s : State) : Option Command → Instr → Prop
  | port : ResponseForm s (s.cfg.commandOf s.rxPkt.cmd) .buildResponse
  | command (k : Command) (action : s.data.action = .response) : ResponseForm s (some k) k.instr

/-- `i` routes the held packet. -/
inductive ReceiveForm (s : State) : Instr → Prop
  | port : ReceiveForm s .onReceive
  | command (k : Command) (action : s.data.action = .receive) : ReceiveForm s k.instr

/-- `i` raises the fault from `s`: the table of 60_exceptions.md section 1, a constructor for each cause. -/
inductive Raises (s : State) (i : Instr) : FaultCode → Prop
  | encodeTooLong (instr : i = .encode) (long : s.cfg.frameMax < 8 + s.data.packet.payload.length) :
      Raises s i .frameOverflow
  | requestTooLong {k : Command} (form : RequestForm s k i) (long : (requestPayload k s).TooLong s.cfg) :
      Raises s i .frameOverflow
  | responseTooLong {k : Option Command} (form : ResponseForm s k i) (held : s.rxValid = true)
      (wanted : wantsResponse s.cfg s.rxPkt.flags = true) (long : (responsePayload k s.rxPkt s).TooLong s.cfg) :
      Raises s i .frameOverflow
  | responseToNone {k : Option Command} (form : ResponseForm s k i) (notHeld : s.rxValid = false) : Raises s i .noPacket
  | receiveOfNone (form : ReceiveForm s i) (notHeld : s.rxValid = false) : Raises s i .noPacket
  | bufferFull (b : Byte) (instr : i = .pushByte b) (full : s.rc.toNat = s.cfg.frameMax) : Raises s i .decodeOverrun
  | contractBroken (form : RequestForm s .state i) (store : s.data.store = true)
      (broken : exportKeepsContract s = false) : Raises s i .callbackContract
  | unknownCommand (c : Byte) (re : Bool) (instr : i = .buildRequest c re) (unknown : ∀ k, s.cfg.code k ≠ c) :
      Raises s i .illegalOp

/-- If the outcome of `i` is a faulted state, `i` entered it by raising a fault it has a cause for (R257). -/
def FaultEntry (s : State) (i : Instr) (r : Result) : Prop :=
  ∀ t, r = .next t → t.fault ≠ .noFault → ∃ code asks, t = s.raiseFault code asks ∧ Raises s i code

section
variable {s t : State} {i : Instr} {k : Command}

theorem faultEntry_of_noFault (ht : t.fault = .noFault) : FaultEntry s i (.next t) := by
  rintro _ ⟨⟩ hne
  exact absurd ht hne

theorem faultEntry_raiseFault {code : FaultCode} (asks : List Ask) (h : Raises s i code) :
    FaultEntry s i (.next (s.raiseFault code asks)) := by
  rintro _ ⟨⟩ -
  exact ⟨code, asks, rfl, h⟩

theorem finishRequest_faultEntry (hf : s.fault = .noFault) (hform : RequestForm s k i) (c : Byte) (re : Bool) :
    FaultEntry s i (.next (finishRequest c re (requestPayload k s) s)) := by
  obtain ⟨code, hcode, e⟩ | ⟨pl, hpl, hlong, e⟩ | ⟨pl, -, -, e⟩ := finishRequest_cases c re (requestPayload k s) s <;> rw [e]
  · obtain ⟨rfl, rfl, hstore, hbroken⟩ := requestPayload_error k s code hcode
    exact faultEntry_raiseFault _ (.contractBroken hform hstore hbroken)
  · exact faultEntry_raiseFault _ (.requestTooLong hform ⟨pl, hpl, hlong⟩)
  · exact faultEntry_of_noFault hf

/-- The response may go out under another command byte than the held packet's (log entry 2); its flags decide. -/
theorem finishResponse_faultEntry (hf : s.fault = .noFault) (hv : s.rxValid = true) {k : Option Command}
    (hform : ResponseForm s k i) {q : Packet} (hq : q.flags = s.rxPkt.flags) :
    FaultEntry s i (.next (finishResponse q (responsePayload k s.rxPkt s) s)) := by
  obtain ⟨-, e⟩ | ⟨code, hcode, -⟩ | ⟨pl, hpl, hw, hlong, e⟩ | ⟨pl, -, -, -, e⟩ :=
    finishResponse_cases q (responsePayload k s.rxPkt s) s
  · exact e ▸ faultEntry_of_noFault hf
  · obtain ⟨pl, hpl⟩ := responsePayload_ok k s.rxPkt s
    cases hpl.symm.trans hcode
  · exact e ▸ faultEntry_raiseFault _ (.responseTooLong hform hv (hq ▸ hw) ⟨pl, hpl, hlong⟩)
  · exact e ▸ faultEntry_of_noFault hf

/-- The held-packet check adds only NO_PACKET (R253). -/
theorem onHeldPacket_faultEntry {f : Packet → State} (hf : s.fault = .noFault)
    (hnone : s.rxValid = false → Raises s i .noPacket) (hheld : s.rxValid = true → FaultEntry s i (.next (f s.rxPkt))) :
    FaultEntry s i (onHeldPacket s f) := by
  by_cases hv : s.rxValid = true
  · rw [onHeldPacket_held f hf hv]
    exact hheld hv
  · have hv' : s.rxValid = false := Bool.eq_false_of_not_eq_true hv
    rw [onHeldPacket_none f hf hv']
    exact faultEntry_raiseFault [] (hnone hv')

theorem execEncode_faultEntry (hf : s.fault = .noFault) : FaultEntry s .encode (execEncode s) := by
  by_cases hlong : s.cfg.frameMax < 8 + s.data.packet.payload.length
  · rw [execEncode_overflow hf hlong]
    exact faultEntry_raiseFault [] (.encodeTooLong rfl hlong)
  · rw [execEncode_fits hf (Nat.le_of_not_lt hlong)]
    exact faultEntry_of_noFault hf

theorem execChecksum_faultEntry (hf : s.fault = .noFault) : FaultEntry s .checksum (execChecksum s) :=
  execChecksum_ok hf ▸ faultEntry_of_noFault hf

theorem execPushByte_faultEntry (b : Byte) (hf : s.fault = .noFault) :
    FaultEntry s (.pushByte b) (execPushByte b s) := by
  obtain ⟨hfaulted, -⟩ | ⟨-, hfull, e⟩ | ⟨-, -, e⟩ | ⟨-, -, e⟩ := execPushByte_cases b s
  · exact absurd hf hfaulted
  · exact e ▸ faultEntry_raiseFault [] (.bufferFull b rfl hfull)
  · rw [e]
    rintro _ ⟨⟩
  · exact e ▸ faultEntry_of_noFault (by rw [push_frame]; exact hf)

theorem execBuildRequest_faultEntry (c : Byte) (re : Bool) (hf : s.fault = .noFault) :
    FaultEntry s (.buildRequest c re) (execBuildRequest c re s) := by
  obtain ⟨-, hc⟩ | ⟨k, hc, rfl⟩ := s.cfg.commandOf_cases c
  · have hunknown : ∀ k, s.cfg.code k ≠ c := fun k => (hc k).symm
    rw [execBuildRequest_unknown re hf hunknown]
    exact faultEntry_raiseFault [] (.unknownCommand c re rfl hunknown)
  · rw [execBuildRequest, unlessFaulted_ok s _ hf, hc]
    exact finishRequest_faultEntry hf (.port re) _ re

theorem execTxFrame_faultEntry (hf : s.fault = .noFault) : FaultEntry s .txFrame (execTxFrame s) := by
  rw [execTxFrame, unlessFaulted_ok s _ hf]
  split
  · rintro _ ⟨⟩
  · exact faultEntry_of_noFault hf

theorem exec_command_faultEntry (k : Command) (hf : s.fault = .noFault) : FaultEntry s k.instr (exec k.instr s) := by
  cases ha : s.data.action with
  | request re =>
    rw [exec_command, runCommand_request _ _ _ _ hf ha]
    exact finishRequest_faultEntry hf (.command re ha) _ re
  | response =>
    rw [exec_command_response k ha]
    exact onHeldPacket_faultEntry hf (.responseToNone (.command k ha)) fun hv =>
      finishResponse_faultEntry hf hv (.command k ha) rfl
  | receive =>
    rw [exec_command_receive k ha]
    exact onHeldPacket_faultEntry hf (.receiveOfNone (.command k ha)) fun _ => faultEntry_of_noFault hf

end

/-- Every instruction enters the faulted state only so. -/
theorem exec_faultEntry (i : Instr) {s : State} (hf : s.fault = .noFault) : FaultEntry s i (exec i s) := by
  cases i using Instr.port_or_command with
  | reset => exact faultEntry_of_noFault rfl
  | encode => exact execEncode_faultEntry hf
  | checksum => exact execChecksum_faultEntry hf
  | pushByte b => exact execPushByte_faultEntry b hf
  | buildRequest c re => exact execBuildRequest_faultEntry c re hf
  | buildResponse =>
    exact onHeldPacket_faultEntry hf (.responseToNone .port) fun hv => finishResponse_faultEntry hf hv .port rfl
  | onReceive => exact onHeldPacket_faultEntry hf (.receiveOfNone .port) fun _ => faultEntry_of_noFault hf
  | txFrame => exact execTxFrame_faultEntry hf
  | readStatus => exact faultEntry_of_noFault hf
  | command k => exact exec_command_faultEntry k hf

/-- A fault that an instruction leaves behind has its cause. -/
theorem raises_of_exec {i : Instr} {s t : State} {code : FaultCode} (hf : s.fault = .noFault) (h : exec i s = .next t)
    (hcode : t.fault = code) (hne : code ≠ .noFault) : Raises s i code := by
  subst hcode
  obtain ⟨code, asks, rfl, hraises⟩ := exec_faultEntry i hf t h hne
  exact hraises

/-- Settles O51: `State.raiseFault` is the update the statement writes out. -/
theorem faultEntryIsPrecise : Obligations.FaultEntryIsPrecise := by
  intro i s t hf h ht
  obtain ⟨code, asks, rfl, -⟩ := exec_faultEntry i hf t h ht
  exact ⟨asks, rfl⟩

/-- Settles O52: the causes of `Raises`, fault by fault. -/
theorem faultsHaveTheirRaisers : Obligations.FaultsHaveTheirRaisers := by
  intro i s t hf h answers
  refine ⟨fun hcode => ?_, fun hcode => ?_, fun hcode => ?_, fun hcode => ?_, fun hcode => ?_⟩
  · cases raises_of_exec hf h hcode (by decide) with
    | encodeTooLong hi hlong => exact .inl ⟨hi, hlong⟩
    | requestTooLong form hlong =>
      cases form with
      | port re => exact .inr (.inl ⟨_, re, rfl, hlong⟩)
      | command re ha => exact .inr (.inr (.inr (.inl ⟨_, re, rfl, ha, hlong⟩)))
    | responseTooLong form hv hw hlong =>
      cases form with
      | port => exact .inr (.inr (.inl ⟨rfl, ⟨hv, hw⟩, hlong⟩))
      | command k ha => exact .inr (.inr (.inr (.inr ⟨k, rfl, ha, ⟨hv, hw⟩, hlong⟩)))
  · cases raises_of_exec hf h hcode (by decide) with
    | responseToNone form hv =>
      cases form with
      | port => exact ⟨hv, .inl rfl⟩
      | command k ha => exact ⟨hv, .inr (.inr ⟨k, rfl, .inl ha⟩)⟩
    | receiveOfNone form hv =>
      cases form with
      | port => exact ⟨hv, .inr (.inl rfl)⟩
      | command k ha => exact ⟨hv, .inr (.inr ⟨k, rfl, .inr ha⟩)⟩
  · cases raises_of_exec hf h hcode (by decide) with
    | bufferFull b hi hfull => exact ⟨⟨b, hi⟩, hfull⟩
  · cases raises_of_exec hf h hcode (by decide) with
    | contractBroken form hstore hbroken =>
      have hanswer := mt exportKeepsContract_iff.mpr (ne_true_of_eq_false hbroken)
      rw [not_and_or, Nat.not_le] at hanswer
      refine ⟨hstore, hanswer, ?_⟩
      cases form with
      | port re => exact .inl ⟨re, rfl⟩
      | command re ha => exact .inr ⟨rfl, re, ha⟩
  · cases raises_of_exec hf h hcode (by decide) with
    | unknownCommand c re hi hunknown => exact ⟨c, re, hi, hunknown⟩

end Sys2Proof.Machine
end

section
/-!
PROOFS. Construction counts as a RESET, and the pad byte that realigns the decoder (spec 70_reset_and_hazards.md sections 1
and 3).
-/

namespace Sys2Proof.Machine

/-! ### Construction (R280, R281) -/

/-- The invariant does not read the operations the host has still to issue. -/
theorem State.Inv.withPending {s : State} (h : s.Inv) (ops : List PortRequest) : { s with pending := ops }.Inv := h

/-- Settles O7: `State.initial_inv`, at the default parameters and at any legal ones. -/
theorem invariantHoldsAtReset : Obligations.InvariantHoldsAtReset :=
  ⟨State.initial_inv (by decide), fun _ ops hcfg => (State.initial_inv hcfg).withPending ops⟩

/-- RESET in the initial state finds every register as it leaves it; only the outputs are new. -/
theorem execReset_initial (cfg : Config) :
    execReset (State.initial cfg) = .next ((State.initial cfg).drive .nothing []) := rfl

/-- Of the fields of STATUS0 only `seq_ctr` is not 0 in the initial state. -/
theorem status0_initial (cfg : Config) : status0 (State.initial cfg) = cfg.seqReset.zeroExtend 32 <<< 16 := by
  apply BitVec.eq_of_toNat_eq
  have hseq := cfg.seqReset.isLt
  have hsum : (status0 (State.initial cfg)).toNat = 2 ^ 16 * cfg.seqReset.toNat := by
    rw [status0_toNat]
    simp [State.initial, dstateCode, eventCode, faultCodeBits]
  rw [hsum, BitVec.toNat_shiftLeft, BitVec.toNat_setWidth, Nat.shiftLeft_eq]
  omega

/-- No frame is encoded and no packet is held in the initial state, so STATUS1 is 0. -/
theorem status1_initial (cfg : Config) : status1 (State.initial cfg) = 0 := by
  apply BitVec.eq_of_toNat_eq
  rw [status1_toNat]
  rfl

/-- READ_STATUS in the initial state reports no fault and the reset value of `seq_ctr` (R242). -/
theorem execReadStatus_initial (cfg : Config) :
    execReadStatus (State.initial cfg)
      = .next { State.initial cfg with
                out := { status := .ok, val := .statusWords (cfg.seqReset.zeroExtend 32 <<< 16) 0, asks := [] } } := by
  rw [execReadStatus, status0_initial, status1_initial]
  rfl

/-- Settles O13: RESET and READ_STATUS in the initial state; each register has the value `State.initial` gives it. -/
theorem constructionCountsAsReset : Obligations.ConstructionCountsAsReset :=
  ⟨rfl, fun cfg =>
    ⟨⟨_, execReset_initial cfg, rfl⟩, ⟨_, execReadStatus_initial cfg, rfl⟩, rfl, rfl, rfl, rfl, rfl, rfl, rfl, rfl, rfl,
      rfl, fun a => ⟨Memory.read_nil a, Memory.read_nil a⟩⟩⟩

/-! ### The pad byte (R288) -/

/-- A pad byte that is not MAGIC_B does not complete a magic pair: ANY compares both bytes, and under BOTH the stale byte is
not MAGIC_A either. -/
theorem magicOk_pad {cfg : Config} {x d : Byte} (hd : d ≠ cfg.magicB) (hx : cfg.magicCheck = .any ∨ x ≠ cfg.magicA) :
    magicOk cfg x d = false := by
  rw [← Bool.not_eq_true]
  cases hm : cfg.magicCheck with
  | any => exact fun h => hd ((magicOk_any hm x d).mp h).2
  | both => exact fun h => (magicOk_both hm x d).mp h ⟨hx.resolve_left (by simp [hm]), hd⟩

/-- Settles O33: the pair of the stale and the pad byte fails, and PAIR discards it (R155). -/
theorem padByteRealigns : Obligations.PadByteRealigns := by
  intro s d hf hrc hmax hpair hd hx
  have hv : verdict s.cfg (s.held ++ [d]) = .magicErr := by
    rw [verdict_second (by simp [hrc]), State.getD_held_concat_of_lt (by omega), State.getD_held_concat_last hrc.symm,
      magicOk_pad hd hx]
    simp [hpair]
  refine ⟨_, exec_pushByte_eq hf (by omega) (by omega), ?_⟩
  rw [hv]
  exact ⟨rfl, rfl, rfl, hf, rfl, rfl⟩

end Sys2Proof.Machine
end
